-- ==== Sys2Proof/Word.lean ====
section
/-! DEFINITION. The machine's words: bytes and 16-bit words (spec 00_scope R7). -/

namespace Sys2Proof

/-- A register half, a bus data byte, a port data byte (R7). -/
abbrev Byte := BitVec 8

/-- A register pair, SP, PC, a memory or port address (R7). -/
abbrev Word := BitVec 16

end Sys2Proof
end

