-- ==== Sys2Proof/Machine/Flags.lean ====
section
/-! DEFINITION. The flag tables and every flag computation of the spec: 41_alu8 R140 to R165, 42_alu16 R170 to R173,
43_rotate_bit R180 to R200, 45_block sections 2 to 5, 46_io_cpu_control R251 and R268. Each function gives the whole new F. -/

namespace Sys2Proof.Machine

/-! ### Masks (R28) -/

abbrev flagC : Byte := 0x01
abbrev flagN : Byte := 0x02
abbrev flagPV : Byte := 0x04
abbrev flagX3 : Byte := 0x08
abbrev flagH : Byte := 0x10
abbrev flagX5 : Byte := 0x20
abbrev flagZ : Byte := 0x40
abbrev flagS : Byte := 0x80

/-- A mask if the condition holds, 0 otherwise: the rules' `cond ? mask : 0`. -/
def flagIf (p : Bool) (mask : Byte) : Byte := if p then mask else 0

/-- The carry flag of F as a bit. -/
def carryOf (f : Byte) : Bool := f.getLsbD 0

/-! ### Tables (R140 to R147, R170) -/

/-- `SZ53[v]` (R140). -/
def sz53 (v : Byte) : Byte := (v &&& flagS) ||| (v &&& flagX5) ||| (v &&& flagX3) ||| flagIf (v == 0) flagZ

/-- The number of 1 bits of a byte. -/
def popCount (v : Byte) : Nat := (List.range 8).countP v.getLsbD

/-- `PARITY[v]` (R141). -/
def parity (v : Byte) : Byte := flagIf (popCount v % 2 == 0) flagPV

/-- `SZ53P[v]` (R142). -/
def sz53p (v : Byte) : Byte := sz53 v ||| parity v

/-- `HC_ADD` (R143). -/
def hcAdd (i : Nat) : Byte := [0, flagH, flagH, flagH, 0, 0, 0, flagH].getD i 0

/-- `HC_SUB` (R144). -/
def hcSub (i : Nat) : Byte := [0, 0, flagH, 0, flagH, 0, flagH, flagH].getD i 0

/-- `OV_ADD` (R145). -/
def ovAdd (i : Nat) : Byte := [0, 0, 0, flagPV, flagPV, 0, 0, 0].getD i 0

/-- `OV_SUB` (R146). -/
def ovSub (i : Nat) : Byte := [0, flagPV, 0, 0, 0, 0, flagPV, 0].getD i 0

/-- The hash index of one bit of both operands and the result (R147, R170). -/
def hashIndex (op1 op2 res : Bool) : Nat := op1.toNat + 2 * op2.toNat + 4 * res.toNat

def idx8h (op1 op2 res : Byte) : Nat := hashIndex (op1.getLsbD 3) (op2.getLsbD 3) (res.getLsbD 3)
def idx8v (op1 op2 res : Byte) : Nat := hashIndex (op1.getLsbD 7) (op2.getLsbD 7) (res.getLsbD 7)
def idx16h (op1 op2 res : Word) : Nat := hashIndex (op1.getLsbD 11) (op2.getLsbD 11) (res.getLsbD 11)
def idx16v (op1 op2 res : Word) : Nat := hashIndex (op1.getLsbD 15) (op2.getLsbD 15) (res.getLsbD 15)

/-! ### 8-bit addition and subtraction (R149, R150) -/

/-- `res9` of `add8(v, cin)`. -/
def add9 (a v : Byte) (cin : Bool) : BitVec 9 := a.setWidth 9 + v.setWidth 9 + (BitVec.ofBool cin).setWidth 9

/-- `res9` of `sub8(v, cin)`. -/
def sub9 (a v : Byte) (cin : Bool) : BitVec 9 := a.setWidth 9 - v.setWidth 9 - (BitVec.ofBool cin).setWidth 9

def add8 (a v : Byte) (cin : Bool) : Byte := (add9 a v cin).setWidth 8

def add8F (a v : Byte) (cin : Bool) : Byte :=
  let res := add8 a v cin
  flagIf ((add9 a v cin).getLsbD 8) flagC ||| hcAdd (idx8h a v res) ||| ovAdd (idx8v a v res) ||| sz53 res

def sub8 (a v : Byte) (cin : Bool) : Byte := (sub9 a v cin).setWidth 8

def sub8F (a v : Byte) (cin : Bool) : Byte :=
  let res := sub8 a v cin
  flagIf ((sub9 a v cin).getLsbD 8) flagC ||| flagN ||| hcSub (idx8h a v res) ||| ovSub (idx8v a v res) ||| sz53 res

/-- The flags of CP: X5 and X3 come from the operand (R158). -/
def cpF (a v : Byte) : Byte :=
  let res := sub8 a v false
  flagIf ((sub9 a v false).getLsbD 8) flagC ||| flagIf (res == 0) flagZ ||| flagN ||| hcSub (idx8h a v res)
    ||| ovSub (idx8v a v res) ||| (res &&& flagS) ||| (v &&& (flagX5 ||| flagX3))

/-! ### Increment and decrement (R159, R160) -/

def inc8F (f v : Byte) : Byte :=
  let res := v + 1
  (f &&& flagC) ||| flagIf (res == 0x80) flagPV ||| flagIf (res &&& 0x0F == 0) flagH ||| sz53 res

def dec8F (f v : Byte) : Byte :=
  let res := v - 1
  (f &&& flagC) ||| flagN ||| flagIf (v &&& 0x0F == 0) flagH ||| flagIf (res == 0x7F) flagPV ||| sz53 res

/-! ### Accumulator adjustments (R161 to R165) -/

/-- The correction DAA adds or subtracts (R161). -/
def daaCorrection (a f : Byte) : Byte :=
  flagIf (f.getLsbD 4 || decide (9 < (a &&& 0x0F).toNat)) 0x06 ||| flagIf (carryOf f || decide (0x99 < a.toNat)) 0x60

def daaA (a f : Byte) : Byte :=
  if f.getLsbD 1 then sub8 a (daaCorrection a f) false else add8 a (daaCorrection a f) false

def daaF (a f : Byte) : Byte :=
  let f1 := if f.getLsbD 1 then sub8F a (daaCorrection a f) false else add8F a (daaCorrection a f) false
  (f1 &&& ~~~(flagC ||| flagPV)) ||| flagIf (carryOf f || decide (0x99 < a.toNat)) flagC ||| parity (daaA a f)

/-- F after CPL, from the new A (R162). -/
def cplF (f a : Byte) : Byte := (f &&& (flagC ||| flagPV ||| flagZ ||| flagS)) ||| (a &&& (flagX5 ||| flagX3)) ||| flagH ||| flagN

/-- R164. -/
def ccfF (f a : Byte) : Byte :=
  (f &&& (flagPV ||| flagZ ||| flagS)) ||| (if carryOf f then flagH else flagC) ||| (a &&& (flagX5 ||| flagX3))

/-- R165. -/
def scfF (f a : Byte) : Byte := (f &&& (flagPV ||| flagZ ||| flagS)) ||| (a &&& (flagX5 ||| flagX3)) ||| flagC

/-! ### 16-bit arithmetic (R171 to R173) -/

/-- `res17` of a 16-bit addition. -/
def add17 (p v : Word) (cin : Bool) : BitVec 17 := p.setWidth 17 + v.setWidth 17 + (BitVec.ofBool cin).setWidth 17

/-- `res17` of a 16-bit subtraction. -/
def sub17 (p v : Word) (cin : Bool) : BitVec 17 := p.setWidth 17 - v.setWidth 17 - (BitVec.ofBool cin).setWidth 17

/-- The high byte of a 16-bit result, for S, X5 and X3. -/
def high8 (res : Word) : Byte := res.extractLsb' 8 8

def add16 (p v : Word) : Word := (add17 p v false).setWidth 16

def add16F (f : Byte) (p v : Word) : Byte :=
  let res := add16 p v
  (f &&& (flagPV ||| flagZ ||| flagS)) ||| flagIf ((add17 p v false).getLsbD 16) flagC ||| (high8 res &&& (flagX5 ||| flagX3))
    ||| hcAdd (idx16h p v res)

def adc16 (p v : Word) (cin : Bool) : Word := (add17 p v cin).setWidth 16

def adc16F (p v : Word) (cin : Bool) : Byte :=
  let res := adc16 p v cin
  flagIf ((add17 p v cin).getLsbD 16) flagC ||| ovAdd (idx16v p v res) ||| hcAdd (idx16h p v res)
    ||| (high8 res &&& (flagS ||| flagX5 ||| flagX3)) ||| flagIf (res == 0) flagZ

def sbc16 (p v : Word) (cin : Bool) : Word := (sub17 p v cin).setWidth 16

def sbc16F (p v : Word) (cin : Bool) : Byte :=
  let res := sbc16 p v cin
  flagIf ((sub17 p v cin).getLsbD 16) flagC ||| flagN ||| ovSub (idx16v p v res) ||| hcSub (idx16h p v res)
    ||| (high8 res &&& (flagS ||| flagX5 ||| flagX3)) ||| flagIf (res == 0) flagZ

/-! ### Shifts (R180) -/

/-- The eight shift primitives (R80, R180). -/
inductive Shift where
  | rlc | rrc | rl | rr | sla | sra | sll | srl
  deriving DecidableEq, Repr

/-- A bit as the lowest bit of a byte. -/
def bit0 (b : Bool) : Byte := flagIf b 0x01

/-- The result byte (R180). -/
def Shift.result (op : Shift) (v : Byte) (c : Bool) : Byte :=
  match op with
  | .rlc => v <<< 1 ||| bit0 (v.getLsbD 7)
  | .rrc => v >>> 1 ||| bit0 (v.getLsbD 0) <<< 7
  | .rl => v <<< 1 ||| bit0 c
  | .rr => v >>> 1 ||| bit0 c <<< 7
  | .sla => v <<< 1
  | .sra => v >>> 1 ||| (v &&& 0x80)
  | .sll => v <<< 1 ||| 1
  | .srl => v >>> 1

/-- The bit shifted out (R180). -/
def Shift.carry (op : Shift) (v : Byte) : Bool :=
  match op with
  | .rlc | .rl | .sla | .sll => v.getLsbD 7
  | .rrc | .rr | .sra | .srl => v.getLsbD 0

/-- F after a CB shift: `co | SZ53P[res]` (R185). -/
def Shift.flags (op : Shift) (v : Byte) (c : Bool) : Byte := flagIf (op.carry v) flagC ||| sz53p (op.result v c)

/-- F after RLCA, RRCA, RLA, RRA (R181 to R184). -/
def Shift.accFlags (op : Shift) (f v : Byte) : Byte :=
  (f &&& (flagPV ||| flagZ ||| flagS)) ||| (op.result v (carryOf f) &&& (flagX5 ||| flagX3)) ||| flagIf (op.carry v) flagC

/-! ### Bits (R194 to R197) -/

/-- F after BIT b; `x` is the byte X5 and X3 come from: the tested value (R194) or the high byte of SCR (R195). -/
def bitF (f v x : Byte) (b : BitVec 3) : Byte :=
  (f &&& flagC) ||| flagH ||| (x &&& (flagX5 ||| flagX3)) ||| flagIf (!v.getLsbD b.toNat) (flagZ ||| flagPV)
    ||| flagIf (b == 7 && v.getLsbD 7) flagS

/-- `1 << b`. -/
def bitMask (b : BitVec 3) : Byte := 1 <<< b.toNat

def resBit (b : BitVec 3) (v : Byte) : Byte := v &&& ~~~bitMask b

def setBit (b : BitVec 3) (v : Byte) : Byte := v ||| bitMask b

/-- `(F & C) | SZ53P[v]`: RLD, RRD (R199, R200), IN r,(C) (R251). -/
def keepCSz53p (f v : Byte) : Byte := (f &&& flagC) ||| sz53p v

/-- F after LD A,I and LD A,R (R268, R269). -/
def loadIrF (f a : Byte) (iff2 : Bool) : Byte := (f &&& flagC) ||| sz53 a ||| flagIf iff2 flagPV

/-! ### Block instructions (45_block) -/

/-- F after one unit of LDI, LDD, LDIR, LDDR, from BC after the decrement. -/
def ldBlockF (f a v : Byte) (bc : Word) : Byte :=
  let t := v + a
  (f &&& (flagC ||| flagZ ||| flagS)) ||| flagIf (bc != 0) flagPV ||| (t &&& flagX3) ||| flagIf (t.getLsbD 1) flagX5

/-- The difference X5 and X3 of a search come from: one less after a half-borrow. -/
def cpBlockAdjusted (a v : Byte) : Byte :=
  let diff := a - v
  if hcSub (idx8h a v diff) == 0 then diff else diff - 1

/-- F after one unit of CPI, CPD, CPIR, CPDR, from BC after the decrement. -/
def cpBlockF (f a v : Byte) (bc : Word) : Byte :=
  let diff := a - v
  let adj := cpBlockAdjusted a v
  (f &&& flagC) ||| flagN ||| flagIf (bc != 0) flagPV ||| hcSub (idx8h a v diff) ||| flagIf (diff == 0) flagZ
    ||| (diff &&& flagS) ||| (adj &&& flagX3) ||| flagIf (adj.getLsbD 1) flagX5

/-- F after one unit of a block input or output: `v` the byte moved, `k` the byte added to it, `b` the new B. -/
def ioBlockF (v k b : Byte) : Byte :=
  let sum := v.toNat + k.toNat
  flagIf (v.getLsbD 7) flagN ||| flagIf (decide (0xFF < sum)) (flagH ||| flagC) ||| parity (BitVec.ofNat 8 (sum % 8) ^^^ b)
    ||| sz53 b

end Sys2Proof.Machine
end

