-- ==== Sys2Proof/Machine/Bits.lean ====
section
/-! DEFINITION. Byte order, bit fields and sign extension (spec 00_scope R9, 30_encoding section 2). -/

namespace Sys2Proof

/-- `hi:lo`, the 16-bit value `hi * 256 + lo` (R9, R23). -/
def mkWord (hi lo : Byte) : Word := hi ++ lo

/-- Bits 15 to 8 of a word (R23). -/
def hiByte (v : Word) : Byte := v.extractLsb' 8 8

/-- Bits 7 to 0 of a word (R23). -/
def loByte (v : Word) : Byte := v.extractLsb' 0 8

/-- `sext_16(v)` (R9). -/
def sext16 (v : Byte) : Word := v.signExtend 16

/-- Field `x = op[7:6]` of an opcode byte. -/
def fieldX (op : Byte) : BitVec 2 := op.extractLsb' 6 2

/-- Field `y = op[5:3]`. -/
def fieldY (op : Byte) : BitVec 3 := op.extractLsb' 3 3

/-- Field `z = op[2:0]`. -/
def fieldZ (op : Byte) : BitVec 3 := op.extractLsb' 0 3

/-- Field `p = op[5:4]`. -/
def fieldP (op : Byte) : BitVec 2 := op.extractLsb' 4 2

/-- Field `q = op[3]`. -/
def fieldQ (op : Byte) : Bool := op.getLsbD 3

/-- The opcode byte with fields x, y and z. -/
def opcodeXyz (x : BitVec 2) (y z : BitVec 3) : Byte := x ++ y ++ z

/-- The opcode byte with fields x, p, q and z. -/
def opcodeXpqz (x p : BitVec 2) (q : Bool) (z : BitVec 3) : Byte := x ++ p ++ BitVec.ofBool q ++ z

/-- `n` bytes of the number `w`, the least significant first. -/
def bytesOf : Nat → Nat → List Byte
  | 0, _ => []
  | n + 1, w => BitVec.ofNat 8 w :: bytesOf n (w / 256)

end Sys2Proof
end

