-- ==== Sys2Proof/Config.lean ====
section
/-! DEFINITION. What an implementation fixes, and the free values: constants with no body, of which nothing can be proved
but that they are there. The named parameters of spec 00_scope R8. -/

namespace Sys2Proof

/-- The kinds of timed call the core makes to the backends (R57, R61, R319). -/
inductive BusKind where
  | memRead | memWrite | contendRead | contendReadNoMreq | contendWriteNoMreq | portRead | portWrite
  deriving DecidableEq, Repr

namespace Config

/-- Parameter `Contention` (R8, R318): the T-states the backend adds to a call of a kind, at an address, of a base cost,
at a value of T. A free value (log 5). -/
opaque contention (kind : BusKind) (addr : Word) (base t : Nat) : Nat

/-- Parameter `PortIn` (R8, R60): the byte that answers a port read, given how many draws came before. A free value
(log 4): two reads of one port may differ. -/
opaque portIn (draw : Nat) (port : Word) : Byte

/-- The byte a read of a device address of parameter `Mem` returns, given how many draws came before (R60). A free value
(log 4). -/
opaque deviceByte (draw : Nat) (addr : Word) : Byte

/-- What an address of `mem` that is not listed reads as. DESIGN CHOICE (log 1): the spec gives no initial contents. -/
def unlistedByte (_addr : Nat) : Byte := 0

/-- The reset entry point (R63). -/
def resetPc : Word := 0x0000

/-- The vector of an accepted interrupt in IM 0 and IM 1 (R283). -/
def interruptVector : Word := 0x0038

/-- The low byte of the IM 2 table entry's address: the core has no data bus to take it from (R284). -/
def im2LowByte : Byte := 0xFF

/-- The T-states an acceptance charges before its accesses (R287). -/
def acceptTicks : Nat := 7

end Config

end Sys2Proof
end

