-- ==== Sys2Proof/Syntax.lean ====
section
/-! DEFINITION. The instruction set as syntax: one constructor of `Instr` for each row of spec/opcode_table.json,
in the table's order (spec 30_encoding R104), over the operand types of R75 to R82. -/

namespace Sys2Proof

/-- The 8-bit registers that the field `r8` names; field value 6 names memory, not a register (R75). -/
inductive R8 where
  | b | c | d | e | h | l | a
  deriving DecidableEq, Repr

/-- The pairs of field `rp`: 16-bit loads, INC, DEC, ADD, ADC, SBC (R76). -/
inductive RP where
  | bc | de | hl | sp
  deriving DecidableEq, Repr

/-- The pairs of field `rp2`: PUSH and POP (R77). -/
inductive RP2 where
  | bc | de | hl | af
  deriving DecidableEq, Repr

/-- The sources of `ADD XY,pp`: field `rp` with HL replaced by the index register itself (R87, R171). -/
inductive PP where
  | bc | de | xy | sp
  deriving DecidableEq, Repr

/-- The address registers of `LD A,(rr)` and `LD (rr),A` (R116, R117). -/
inductive RR where
  | bc | de
  deriving DecidableEq, Repr

/-- The conditions of field `cc` (R78). -/
inductive Cond where
  | nz | z | nc | c | po | pe | p | m
  deriving DecidableEq, Repr

/-- The index register a DD (IX) or FD (IY) byte selects (R86). -/
inductive XY where
  | ix | iy
  deriving DecidableEq, Repr

/-- A half of an index register: XYH or XYL (R15, R24). -/
inductive Half where
  | hi | lo
  deriving DecidableEq, Repr

/-- The destinations of `LD r,XYh`: field `r8` with H and L read as XYH and XYL (R87). -/
inductive XReg where
  | b | c | d | e | xh | xl | a
  deriving DecidableEq, Repr

/-- The six regions of the dispatch table (R70). -/
inductive TableRegion where
  | plain | cb | ed | dd | fd | indexedCb
  deriving DecidableEq, Repr

/-- One constructor for each row of spec/opcode_table.json. `n` is an 8-bit immediate, `nn` a 16-bit one,
`d` the displacement of `(XY+d)` and `e` a relative offset, both two's complement (R93). The fields `y`, `z`
and `op` of NEG, RETN, IM, BIT b,(XY+d) and NOP(ED) tell apart the slots that run the same instruction
(R84, R85, R92). -/
inductive Instr where
  /-- `NOP` (R256). -/
  | nop
  /-- `EX AF,AF'` (R130). -/
  | exAfAf
  /-- `DJNZ e` (R215). -/
  | djnz (e : Byte)
  /-- `JR e` (R213). -/
  | jr (e : Byte)
  /-- `JR cc,e` (R214). -/
  | jrCc (cc : Cond) (e : Byte)
  /-- `LD dd,nn` (R120). -/
  | ldDdNn (dd : RP) (nn : Word)
  /-- `ADD HL,ss` (R171). -/
  | addHlSs (ss : RP)
  /-- `LD (rr),A` (R117). -/
  | ldMemRrA (rr : RR)
  /-- `LD A,(rr)` (R116). -/
  | ldAMemRr (rr : RR)
  /-- `LD (nn),HL` (R123). -/
  | ldMemNnHl (nn : Word)
  /-- `LD HL,(nn)` (R122). -/
  | ldHlMemNn (nn : Word)
  /-- `LD (nn),A` (R119). -/
  | ldMemNnA (nn : Word)
  /-- `LD A,(nn)` (R118). -/
  | ldAMemNn (nn : Word)
  /-- `INC ss` (R174). -/
  | incSs (ss : RP)
  /-- `DEC ss` (R175). -/
  | decSs (ss : RP)
  /-- `INC r` (R159). -/
  | incR (r : R8)
  /-- `INC (HL)` (R159). -/
  | incMemHl
  /-- `DEC r` (R160). -/
  | decR (r : R8)
  /-- `DEC (HL)` (R160). -/
  | decMemHl
  /-- `LD r,n` (R112). -/
  | ldRN (r : R8) (n : Byte)
  /-- `LD (HL),n` (R115). -/
  | ldMemHlN (n : Byte)
  /-- `RLCA` (R181). -/
  | rlca
  /-- `RRCA` (R182). -/
  | rrca
  /-- `RLA` (R183). -/
  | rla
  /-- `RRA` (R184). -/
  | rra
  /-- `DAA` (R161). -/
  | daa
  /-- `CPL` (R162). -/
  | cpl
  /-- `SCF` (R165). -/
  | scf
  /-- `CCF` (R164). -/
  | ccf
  /-- `LD r,r'` (R111). -/
  | ldRR (r : R8) (q : R8)
  /-- `LD r,(HL)` (R113). -/
  | ldRMemHl (r : R8)
  /-- `LD (HL),r` (R114). -/
  | ldMemHlR (r : R8)
  /-- `HALT` (R260). -/
  | halt
  /-- `ADD A,r` (R151). -/
  | addAR (r : R8)
  /-- `ADD A,(HL)` (R151). -/
  | addAMemHl
  /-- `ADD A,n` (R151). -/
  | addAN (n : Byte)
  /-- `ADC A,r` (R152). -/
  | adcAR (r : R8)
  /-- `ADC A,(HL)` (R152). -/
  | adcAMemHl
  /-- `ADC A,n` (R152). -/
  | adcAN (n : Byte)
  /-- `SUB r` (R153). -/
  | subR (r : R8)
  /-- `SUB (HL)` (R153). -/
  | subMemHl
  /-- `SUB n` (R153). -/
  | subN (n : Byte)
  /-- `SBC A,r` (R154). -/
  | sbcAR (r : R8)
  /-- `SBC A,(HL)` (R154). -/
  | sbcAMemHl
  /-- `SBC A,n` (R154). -/
  | sbcAN (n : Byte)
  /-- `AND r` (R155). -/
  | andR (r : R8)
  /-- `AND (HL)` (R155). -/
  | andMemHl
  /-- `AND n` (R155). -/
  | andN (n : Byte)
  /-- `XOR r` (R156). -/
  | xorR (r : R8)
  /-- `XOR (HL)` (R156). -/
  | xorMemHl
  /-- `XOR n` (R156). -/
  | xorN (n : Byte)
  /-- `OR r` (R157). -/
  | orR (r : R8)
  /-- `OR (HL)` (R157). -/
  | orMemHl
  /-- `OR n` (R157). -/
  | orN (n : Byte)
  /-- `CP r` (R158). -/
  | cpR (r : R8)
  /-- `CP (HL)` (R158). -/
  | cpMemHl
  /-- `CP n` (R158). -/
  | cpN (n : Byte)
  /-- `RET cc` (R220). -/
  | retCc (cc : Cond)
  /-- `POP qq` (R127). -/
  | popQq (qq : RP2)
  /-- `RET` (R219). -/
  | ret
  /-- `EXX` (R131). -/
  | exx
  /-- `JP (HL)` (R216). -/
  | jpHl
  /-- `LD SP,HL` (R128). -/
  | ldSpHl
  /-- `JP cc,nn` (R212). -/
  | jpCcNn (cc : Cond) (nn : Word)
  /-- `JP nn` (R211). -/
  | jpNn (nn : Word)
  /-- `OUT (n),A` (R253). -/
  | outNA (n : Byte)
  /-- `IN A,(n)` (R250). -/
  | inAN (n : Byte)
  /-- `EX (SP),HL` (R121). -/
  | exSpHl
  /-- `EX DE,HL` (R129). -/
  | exDeHl
  /-- `DI` (R257). -/
  | di
  /-- `EI` (R258). -/
  | ei
  /-- `CALL cc,nn` (R218). -/
  | callCcNn (cc : Cond) (nn : Word)
  /-- `PUSH qq` (R126). -/
  | pushQq (qq : RP2)
  /-- `CALL nn` (R217). -/
  | callNn (nn : Word)
  /-- `RST p` (R223). -/
  | rst (p : BitVec 3)
  /-- `RLC r` (R186). -/
  | rlcR (r : R8)
  /-- `RLC (HL)` (R186). -/
  | rlcMemHl
  /-- `RRC r` (R187). -/
  | rrcR (r : R8)
  /-- `RRC (HL)` (R187). -/
  | rrcMemHl
  /-- `RL r` (R188). -/
  | rlR (r : R8)
  /-- `RL (HL)` (R188). -/
  | rlMemHl
  /-- `RR r` (R189). -/
  | rrR (r : R8)
  /-- `RR (HL)` (R189). -/
  | rrMemHl
  /-- `SLA r` (R190). -/
  | slaR (r : R8)
  /-- `SLA (HL)` (R190). -/
  | slaMemHl
  /-- `SRA r` (R191). -/
  | sraR (r : R8)
  /-- `SRA (HL)` (R191). -/
  | sraMemHl
  /-- `SLL r` (R192). -/
  | sllR (r : R8)
  /-- `SLL (HL)` (R192). -/
  | sllMemHl
  /-- `SRL r` (R193). -/
  | srlR (r : R8)
  /-- `SRL (HL)` (R193). -/
  | srlMemHl
  /-- `BIT b,r` (R194). -/
  | bitBR (b : BitVec 3) (r : R8)
  /-- `BIT b,(HL)` (R194). -/
  | bitBMemHl (b : BitVec 3)
  /-- `RES b,r` (R196). -/
  | resBR (b : BitVec 3) (r : R8)
  /-- `RES b,(HL)` (R196). -/
  | resBMemHl (b : BitVec 3)
  /-- `SET b,r` (R197). -/
  | setBR (b : BitVec 3) (r : R8)
  /-- `SET b,(HL)` (R197). -/
  | setBMemHl (b : BitVec 3)
  /-- `NOP(ED)` (R262). -/
  | nopEd (op : Byte)
  /-- `IN r,(C)` (R251). -/
  | inRC (r : R8)
  /-- `IN F,(C)` (R252). -/
  | inFC
  /-- `OUT (C),r` (R254). -/
  | outCR (r : R8)
  /-- `OUT (C),0` (R255). -/
  | outC0
  /-- `SBC HL,ss` (R173). -/
  | sbcHlSs (ss : RP)
  /-- `ADC HL,ss` (R172). -/
  | adcHlSs (ss : RP)
  /-- `LD (nn),dd` (R125). -/
  | ldMemNnDd (dd : RP) (nn : Word)
  /-- `LD dd,(nn)` (R124). -/
  | ldDdMemNn (dd : RP) (nn : Word)
  /-- `NEG` (R163). -/
  | neg (y : BitVec 3)
  /-- `RETN` (R221). -/
  | retn (y : BitVec 3)
  /-- `RETI` (R222). -/
  | reti
  /-- `IM 0` (R263). -/
  | im0 (y : BitVec 3)
  /-- `IM 1` (R264). -/
  | im1 (y : BitVec 3)
  /-- `IM 2` (R265). -/
  | im2 (y : BitVec 3)
  /-- `LD I,A` (R266). -/
  | ldIA
  /-- `LD R,A` (R267). -/
  | ldRA
  /-- `LD A,I` (R268). -/
  | ldAI
  /-- `LD A,R` (R269). -/
  | ldAR
  /-- `RRD` (R200). -/
  | rrd
  /-- `RLD` (R199). -/
  | rld
  /-- `LDI` (R233). -/
  | ldi
  /-- `CPI` (R237). -/
  | cpi
  /-- `INI` (R241). -/
  | ini
  /-- `OUTI` (R245). -/
  | outi
  /-- `LDD` (R234). -/
  | ldd
  /-- `CPD` (R238). -/
  | cpd
  /-- `IND` (R242). -/
  | ind
  /-- `OUTD` (R246). -/
  | outd
  /-- `LDIR` (R235). -/
  | ldir
  /-- `CPIR` (R239). -/
  | cpir
  /-- `INIR` (R243). -/
  | inir
  /-- `OTIR` (R247). -/
  | otir
  /-- `LDDR` (R236). -/
  | lddr
  /-- `CPDR` (R240). -/
  | cpdr
  /-- `INDR` (R244). -/
  | indr
  /-- `OTDR` (R248). -/
  | otdr
  /-- `DD/FD prefix (fallback)` (R89). -/
  | xyPrefix (xy : XY)
  /-- `ADD XY,pp` (R171). -/
  | addXyPp (xy : XY) (pp : PP)
  /-- `LD XY,nn` (R120). -/
  | ldXyNn (xy : XY) (nn : Word)
  /-- `LD (nn),XY` (R123). -/
  | ldMemNnXy (xy : XY) (nn : Word)
  /-- `LD XY,(nn)` (R122). -/
  | ldXyMemNn (xy : XY) (nn : Word)
  /-- `INC XY` (R174). -/
  | incXy (xy : XY)
  /-- `DEC XY` (R175). -/
  | decXy (xy : XY)
  /-- `INC XYh` (R159). -/
  | incXyh (xy : XY) (h : Half)
  /-- `DEC XYh` (R160). -/
  | decXyh (xy : XY) (h : Half)
  /-- `LD XYh,n` (R112). -/
  | ldXyhN (xy : XY) (h : Half) (n : Byte)
  /-- `INC (XY+d)` (R159). -/
  | incXyd (xy : XY) (d : Byte)
  /-- `DEC (XY+d)` (R160). -/
  | decXyd (xy : XY) (d : Byte)
  /-- `LD (XY+d),n` (R115). -/
  | ldXydN (xy : XY) (d : Byte) (n : Byte)
  /-- `LD r,(XY+d)` (R113). -/
  | ldRXyd (xy : XY) (r : R8) (d : Byte)
  /-- `LD (XY+d),r` (R114). -/
  | ldXydR (xy : XY) (r : R8) (d : Byte)
  /-- `LD r,(XY+d)` (R113). -/
  | ldHlXyd (xy : XY) (r : R8) (d : Byte)
  /-- `LD (XY+d),r` (R114). -/
  | ldXydHl (xy : XY) (r : R8) (d : Byte)
  /-- `LD A,(XY+d)` (R113). -/
  | ldAXyd (xy : XY) (d : Byte)
  /-- `LD (XY+d),A` (R114). -/
  | ldXydA (xy : XY) (d : Byte)
  /-- `LD r,XYh` (R111). -/
  | ldRXyh (xy : XY) (r : XReg) (h : Half)
  /-- `LD XYh,r` (R111). -/
  | ldXyhR (xy : XY) (h : Half) (r : R8)
  /-- `LD XYh,A` (R111). -/
  | ldXyhA (xy : XY) (h : Half)
  /-- `ADD A,XYh` (R151). -/
  | addAXyh (xy : XY) (h : Half)
  /-- `ADD A,(XY+d)` (R151). -/
  | addAXyd (xy : XY) (d : Byte)
  /-- `ADC A,XYh` (R152). -/
  | adcAXyh (xy : XY) (h : Half)
  /-- `ADC A,(XY+d)` (R152). -/
  | adcAXyd (xy : XY) (d : Byte)
  /-- `SUB XYh` (R153). -/
  | subXyh (xy : XY) (h : Half)
  /-- `SUB (XY+d)` (R153). -/
  | subXyd (xy : XY) (d : Byte)
  /-- `SBC A,XYh` (R154). -/
  | sbcAXyh (xy : XY) (h : Half)
  /-- `SBC A,(XY+d)` (R154). -/
  | sbcAXyd (xy : XY) (d : Byte)
  /-- `AND XYh` (R155). -/
  | andXyh (xy : XY) (h : Half)
  /-- `AND (XY+d)` (R155). -/
  | andXyd (xy : XY) (d : Byte)
  /-- `XOR XYh` (R156). -/
  | xorXyh (xy : XY) (h : Half)
  /-- `XOR (XY+d)` (R156). -/
  | xorXyd (xy : XY) (d : Byte)
  /-- `OR XYh` (R157). -/
  | orXyh (xy : XY) (h : Half)
  /-- `OR (XY+d)` (R157). -/
  | orXyd (xy : XY) (d : Byte)
  /-- `CP XYh` (R158). -/
  | cpXyh (xy : XY) (h : Half)
  /-- `CP (XY+d)` (R158). -/
  | cpXyd (xy : XY) (d : Byte)
  /-- `POP XY` (R127). -/
  | popXy (xy : XY)
  /-- `EX (SP),XY` (R121). -/
  | exSpXy (xy : XY)
  /-- `PUSH XY` (R126). -/
  | pushXy (xy : XY)
  /-- `JP (XY)` (R216). -/
  | jpXy (xy : XY)
  /-- `LD SP,XY` (R128). -/
  | ldSpXy (xy : XY)
  /-- `RLC (XY+d)` (R186). -/
  | rlcXyd (xy : XY) (d : Byte)
  /-- `LD r,RLC (XY+d)` (R198). -/
  | ldRRlcXyd (xy : XY) (d : Byte) (r : R8)
  /-- `RRC (XY+d)` (R187). -/
  | rrcXyd (xy : XY) (d : Byte)
  /-- `LD r,RRC (XY+d)` (R198). -/
  | ldRRrcXyd (xy : XY) (d : Byte) (r : R8)
  /-- `RL (XY+d)` (R188). -/
  | rlXyd (xy : XY) (d : Byte)
  /-- `LD r,RL (XY+d)` (R198). -/
  | ldRRlXyd (xy : XY) (d : Byte) (r : R8)
  /-- `RR (XY+d)` (R189). -/
  | rrXyd (xy : XY) (d : Byte)
  /-- `LD r,RR (XY+d)` (R198). -/
  | ldRRrXyd (xy : XY) (d : Byte) (r : R8)
  /-- `SLA (XY+d)` (R190). -/
  | slaXyd (xy : XY) (d : Byte)
  /-- `LD r,SLA (XY+d)` (R198). -/
  | ldRSlaXyd (xy : XY) (d : Byte) (r : R8)
  /-- `SRA (XY+d)` (R191). -/
  | sraXyd (xy : XY) (d : Byte)
  /-- `LD r,SRA (XY+d)` (R198). -/
  | ldRSraXyd (xy : XY) (d : Byte) (r : R8)
  /-- `SLL (XY+d)` (R192). -/
  | sllXyd (xy : XY) (d : Byte)
  /-- `LD r,SLL (XY+d)` (R198). -/
  | ldRSllXyd (xy : XY) (d : Byte) (r : R8)
  /-- `SRL (XY+d)` (R193). -/
  | srlXyd (xy : XY) (d : Byte)
  /-- `LD r,SRL (XY+d)` (R198). -/
  | ldRSrlXyd (xy : XY) (d : Byte) (r : R8)
  /-- `BIT b,(XY+d)` (R195). -/
  | bitBXyd (xy : XY) (d : Byte) (b : BitVec 3) (z : BitVec 3)
  /-- `RES b,(XY+d)` (R196). -/
  | resBXyd (xy : XY) (d : Byte) (b : BitVec 3)
  /-- `LD r,RES b,(XY+d)` (R198). -/
  | ldRResBXyd (xy : XY) (d : Byte) (b : BitVec 3) (r : R8)
  /-- `SET b,(XY+d)` (R197). -/
  | setBXyd (xy : XY) (d : Byte) (b : BitVec 3)
  /-- `LD r,SET b,(XY+d)` (R198). -/
  | ldRSetBXyd (xy : XY) (d : Byte) (b : BitVec 3) (r : R8)
  deriving DecidableEq, Repr

end Sys2Proof
end

