-- ==== Sys2Proof/Machine/State.lean ====
section
/-! DEFINITION. The machine's state: every cell spec 10_state gives the core, the contents of its memory, the log of its
port accesses, and the platform's parameters as plain data. INVENTORY.md lists each field with its rule. -/

namespace Sys2Proof.Machine

/-- Eight 8-bit registers: the primary set or the shadow set (R20). -/
structure Bank where
  a : Byte
  f : Byte
  b : Byte
  c : Byte
  d : Byte
  e : Byte
  h : Byte
  l : Byte
  deriving DecidableEq, Repr, Inhabited

/-- The two cells of an index register (R22, R24). -/
structure IndexReg where
  hi : Byte
  lo : Byte
  deriving DecidableEq, Repr, Inhabited

/-- What the memory backend does at an address (R51, R60; parameter `Mem` of R8). -/
inductive MemKind where
  /-- Reads give what was last written. -/
  | ram
  /-- Writes are discarded. -/
  | rom
  /-- Reads are draws (log 3). -/
  | device
  deriving DecidableEq, Repr

/-- A run of addresses of one kind. -/
structure MemRegion where
  base : Nat
  size : Nat
  kind : MemKind
  deriving DecidableEq, Repr

/-- The platform's parameters that are data (R8): the memory map, and whether `Contention` is other than 0. An address no
region holds is RAM; where regions overlap, the first one listed counts (log 2). No step changes the platform. -/
structure Platform where
  regions : List MemRegion
  contended : Bool
  deriving DecidableEq, Repr, Inhabited

/-- One entry of the port-event log (R11, R60): a read with its answer, or a write. -/
inductive PortEvent where
  | portIn (port : Word) (v : Byte)
  | portOut (port : Word) (v : Byte)
  deriving DecidableEq, Repr

/-- Memory: addresses rising, no entry equal to what an unlisted address reads as (log 1). -/
abbrev Memory := List Host.Cell

/-- Why the machine stops with a fault. -/
inductive Fault where
  /-- R301: the dispatcher reached a hole of its table. Raised by the run of a step if the decoder says so. R100: the table
  has no hole, so nothing raises it. Safe. -/
  | unpopulatedSlot (region : TableRegion) (slot : Byte)
  /-- R302: an interrupt was accepted with IM outside 0, 1, 2. Raised by acceptance after the push (R286), and by every
  later step, run and interrupt until reset (R300). Safe: the spec's own fault. -/
  | badInterruptMode (im : Nat)
  /-- The model's own (log 8): DD and FD bytes that fall back without end, so the walk of the step does not end. Raised by the
  run of a step. Safe: the model stops where the core goes on fetching for ever. -/
  | endlessPrefixChain
  deriving DecidableEq, Repr

/-- Why the machine gives no meaning. -/
inductive Refusal where
  /-- An instruction with no meaning in the model, by its mnemonic. Raised by an arm of `exec`; no arm does. Safe. -/
  | notModelled (mnemonic : String)
  /-- R45: a step, run or interrupt before the first reset. Safe: the spec's own refusal. -/
  | beforeReset
  /-- The decoder asked for more than the four bytes the fetch window holds. No instruction is longer (R94), so nothing
  raises it. Safe. -/
  | truncatedFetch
  deriving DecidableEq, Repr

structure State where
  main : Bank
  shadow : Bank
  ix : IndexReg
  iy : IndexReg
  sp : Word
  pc : Word
  scr : Word
  i : Byte
  rLow : BitVec 7
  rB7 : Bool
  iff1 : Bool
  iff2 : Bool
  im : Nat
  halted : Bool
  t : Nat
  eiDelay : Bool
  faulted : Option Fault
  resetDone : Bool
  mem : Memory
  events : List PortEvent
  draws : Nat
  answers : List Byte
  platform : Platform
  deriving DecidableEq, Repr, Inhabited

/-- All registers of a set at 0 (R44). -/
def Bank.zero : Bank := ⟨0, 0, 0, 0, 0, 0, 0, 0⟩

/-- A platform of RAM only, with no contention (log 2, log 5). -/
def Platform.plain : Platform := ⟨[], false⟩

/-- The machine right after reset (R44, R310): every cell of the core at 0. The core does not reset memory, the event log
or the platform: here they are as nothing has happened yet (log 1, 2, 4, 5, 9). -/
def State.reset : State where
  main := Bank.zero
  shadow := Bank.zero
  ix := ⟨0, 0⟩
  iy := ⟨0, 0⟩
  sp := 0
  pc := Config.resetPc
  scr := 0
  i := 0
  rLow := 0
  rB7 := false
  iff1 := false
  iff2 := false
  im := 0
  halted := false
  t := 0
  eiDelay := false
  faulted := none
  resetDone := true
  mem := []
  events := []
  draws := 0
  answers := []
  platform := Platform.plain

/-- What `interrupt()` answers (R293), with the state it leaves. Before the first reset it is refused. -/
inductive InterruptResult where
  | accepted (s : State)
  | declined (s : State)
  | fault (r : Fault) (s : State)
  | refused (r : Refusal)
  deriving DecidableEq, Repr

/-- The cells the raw accessors name (R46: the cells of R20 to R36, and T by R304). -/
inductive RawCell where
  | reg (r : R8)
  | f
  | shadowReg (r : R8)
  | shadowF
  | half (xy : XY) (h : Half)
  | sp | pc | i | r | iff1 | iff2 | im | halted | t
  deriving DecidableEq, Repr

/-- The pairs the raw accessors name (R22, R46). -/
inductive RawPair where
  | bc | de | hl | af | shadowBc | shadowDe | shadowHl | shadowAf | ix | iy
  deriving DecidableEq, Repr

end Sys2Proof.Machine
end

