-- ==== Sys2Proof/Machine/Memory.lean ====
section
/-! DEFINITION. The contents of memory as a list in canonical form, and the platform's memory map (spec 20_memory). -/

namespace Sys2Proof.Machine

/-- The byte at an address. -/
def Memory.read : Memory → Nat → Byte
  | [], a => Config.unlistedByte a
  | (b, w) :: m, a => if a = b then w else Memory.read m a

/-- Puts an entry before `m`, unless it says what an unlisted address reads as. -/
def Memory.cons (a : Nat) (v : Byte) (m : Memory) : Memory :=
  if v = Config.unlistedByte a then m else (a, v) :: m

/-- Sets the byte at an address, keeping the canonical form. -/
def Memory.write : Memory → Nat → Byte → Memory
  | [], a, v => Memory.cons a v []
  | (b, w) :: m, a, v =>
    if a < b then Memory.cons a v ((b, w) :: m)
    else if a = b then Memory.cons a v m
    else (b, w) :: Memory.write m a v

/-- Sets consecutive bytes from a 16-bit address on, wrapping at the top (R56). -/
def Memory.writeList : Memory → Word → List Byte → Memory
  | m, _, [] => m
  | m, a, v :: vs => Memory.writeList (Memory.write m a.toNat v) (a + 1) vs

/-- Every address of the list is at least `lo`, they rise, none is beyond the address space (R51), and no entry says what an
unlisted address reads as. -/
def Memory.wfFrom : Nat → Memory → Bool
  | _, [] => true
  | lo, (b, w) :: m => decide (lo ≤ b) && decide (b < 65536) && w != Config.unlistedByte b && Memory.wfFrom (b + 1) m

/-- The canonical form. -/
def Memory.wf (m : Memory) : Bool := Memory.wfFrom 0 m

/-- The region holds the address. -/
def MemRegion.holds (g : MemRegion) (a : Word) : Bool := decide (g.base ≤ a.toNat) && decide (a.toNat < g.base + g.size)

/-- What the backend does at an address: the first region that holds it counts, and the rest is RAM (log 2). -/
def kindIn : List MemRegion → Word → MemKind
  | [], _ => .ram
  | g :: gs, a => if g.holds a then g.kind else kindIn gs a

/-- What this machine's backend does at an address. -/
def State.kindAt (s : State) (a : Word) : MemKind := kindIn s.platform.regions a

/-- The contents of memory at an address, whatever a read of it would draw (R62). -/
def State.peek (s : State) (a : Word) : Byte := s.mem.read a.toNat

end Sys2Proof.Machine
end

