-- ==== Sys2Proof/Machine/Ops.lean ====
section
/-! DEFINITION. The named operations over registers, memory, ports and T: the primitives of spec 00_scope R11, each with its
cost (R319), and the acceptance of an interrupt with the return from one. A read has two halves: the value it gives
(`byteAt`, `readWord`, `popWord`, `portByte`) and the state it leaves (`afterRead` and the like). -/

namespace Sys2Proof.Machine

/-! ### T (R37, R318) -/

/-- `Tick(n)`: a charge the core makes itself, with no contention (R11). -/
def State.addT (s : State) (n : Nat) : State := { s with t := s.t + n }

/-- A timed call to a backend: its base cost, and what the backend adds (R318). -/
def State.tick (s : State) (k : BusKind) (a : Word) (n : Nat) : State :=
  s.addT (n + if s.platform.contended then Config.contention k a n s.t else 0)

/-- `n` calls of one T-state each (R61, the `_loop` variants). -/
def State.ticks (s : State) (k : BusKind) (a : Word) : Nat → State
  | 0 => s
  | n + 1 => (s.ticks k a n).tick k a 1

/-- `contendReadNoMreq(a, 1)`, `n` times. -/
def State.noMreq (s : State) (a : Word) (n : Nat) : State := s.ticks .contendReadNoMreq a n

/-- `contendWriteNoMreq(a, 1)`, `n` times. -/
def State.noMreqWrite (s : State) (a : Word) (n : Nat) : State := s.ticks .contendWriteNoMreq a n

/-! ### Registers (R20 to R36) -/

/-- `r8[k]` of a register set (R75). -/
def Bank.get (g : Bank) : R8 → Byte
  | .b => g.b
  | .c => g.c
  | .d => g.d
  | .e => g.e
  | .h => g.h
  | .l => g.l
  | .a => g.a

/-- Writes `r8[k]` of a register set (R75). -/
def Bank.set (g : Bank) (r : R8) (v : Byte) : Bank :=
  match r with
  | .b => { g with b := v }
  | .c => { g with c := v }
  | .d => { g with d := v }
  | .e => { g with e := v }
  | .h => { g with h := v }
  | .l => { g with l := v }
  | .a => { g with a := v }

def State.r8 (s : State) (r : R8) : Byte := s.main.get r

def State.setR8 (s : State) (r : R8) (v : Byte) : State := { s with main := s.main.set r v }

def State.f (s : State) : Byte := s.main.f

def State.setF (s : State) (v : Byte) : State := { s with main := { s.main with f := v } }

/-- `BC`, `DE`, `HL` and `AF` are computed from their halves on every read (R23). -/
def State.bc (s : State) : Word := mkWord s.main.b s.main.c
def State.de (s : State) : Word := mkWord s.main.d s.main.e
def State.hl (s : State) : Word := mkWord s.main.h s.main.l
def State.af (s : State) : Word := mkWord s.main.a s.main.f

/-- Writing a pair writes both halves (R23). -/
def State.setBc (s : State) (v : Word) : State := (s.setR8 .b (hiByte v)).setR8 .c (loByte v)
def State.setDe (s : State) (v : Word) : State := (s.setR8 .d (hiByte v)).setR8 .e (loByte v)
def State.setHl (s : State) (v : Word) : State := (s.setR8 .h (hiByte v)).setR8 .l (loByte v)
def State.setAf (s : State) (v : Word) : State := (s.setR8 .a (hiByte v)).setF (loByte v)

def State.setShadow (s : State) (g : Bank) : State := { s with shadow := g }

def State.setMain (s : State) (g : Bank) : State := { s with main := g }

def State.setSp (s : State) (v : Word) : State := { s with sp := v }

def State.setPc (s : State) (v : Word) : State := { s with pc := v }

def State.setScr (s : State) (v : Word) : State := { s with scr := v }

def State.setI (s : State) (v : Byte) : State := { s with i := v }

/-- Sets both flip-flops (R34). -/
def State.setIffs (s : State) (v1 v2 : Bool) : State := { s with iff1 := v1, iff2 := v2 }

def State.setIm (s : State) (m : Nat) : State := { s with im := m }

def State.setHalted (s : State) (v : Bool) : State := { s with halted := v }

def State.setEiDelay (s : State) (v : Bool) : State := { s with eiDelay := v }

/-- The index register DD or FD selects (R86). -/
def State.index (s : State) : XY → IndexReg
  | .ix => s.ix
  | .iy => s.iy

def State.setIndex (s : State) (xy : XY) (v : IndexReg) : State :=
  match xy with
  | .ix => { s with ix := v }
  | .iy => { s with iy := v }

/-- XY as a pair (R24). -/
def State.xy (s : State) (xy : XY) : Word := mkWord (s.index xy).hi (s.index xy).lo

def State.setXy (s : State) (xy : XY) (v : Word) : State := s.setIndex xy ⟨hiByte v, loByte v⟩

/-- XYH or XYL (R24). -/
def State.half (s : State) (xy : XY) : Half → Byte
  | .hi => (s.index xy).hi
  | .lo => (s.index xy).lo

def State.setHalf (s : State) (xy : XY) (h : Half) (v : Byte) : State :=
  match h with
  | .hi => s.setIndex xy { s.index xy with hi := v }
  | .lo => s.setIndex xy { s.index xy with lo := v }

/-- The composite `R = R.b7 << 7 | R.low` (R32). -/
def State.rByte (s : State) : Byte := BitVec.ofBool s.rB7 ++ s.rLow

/-- Writes both parts of R (R32, R267). -/
def State.setR (s : State) (v : Byte) : State := { s with rLow := v.extractLsb' 0 7, rB7 := v.getLsbD 7 }

/-- `R.low <- (R.low + 1) mod 128` (R32). -/
def State.bumpR (s : State) : State := { s with rLow := s.rLow + 1 }

/-- The view IR (R33). -/
def State.ir (s : State) : Word := mkWord s.i s.rByte

/-! ### Draws (R60; log 4) -/

/-- What the next draw gives: the answer the host has lined up, or else the free value. -/
def State.nextAnswer (s : State) (free : Byte) : Byte := s.answers.headD free

/-- A draw was made. -/
def State.draw (s : State) : State := { s with draws := s.draws + 1, answers := s.answers.tail }

/-! ### Memory (R57 to R60) -/

/-- The byte the backend answers for a read at the address. -/
def State.byteAt (s : State) (a : Word) : Byte :=
  match s.kindAt a with
  | .ram | .rom => s.peek a
  | .device => s.nextAnswer (Config.deviceByte s.draws a)

/-- A read of a device address is a draw. -/
def State.drawAt (s : State) (a : Word) : State :=
  match s.kindAt a with
  | .ram | .rom => s
  | .device => s.draw

/-- What `MemRead(a, 1)` leaves; its value is `byteAt a`. -/
def State.afterRead (s : State) (a : Word) : State := (s.tick .memRead a 3).drawAt a

/-- The write policy of the platform (R51): RAM keeps the byte, ROM discards it, a device keeps no contents (log 3). -/
def State.storeByte (s : State) (a : Word) (v : Byte) : State :=
  match s.kindAt a with
  | .ram => { s with mem := s.mem.write a.toNat v }
  | .rom | .device => s

/-- `MemWrite(a, 1, v)`. -/
def State.memWrite (s : State) (a : Word) (v : Byte) : State := (s.tick .memWrite a 3).storeByte a v

/-- The value of `MemRead16(a)`: the low byte first, then the byte at `a + 1` (R54). -/
def State.readWord (s : State) (a : Word) : Word := mkWord ((s.afterRead a).byteAt (a + 1)) (s.byteAt a)

/-- What `MemRead16(a)` leaves. -/
def State.afterReadWord (s : State) (a : Word) : State := (s.afterRead a).afterRead (a + 1)

/-- `MemWrite16(a, v)`: the low byte first (R54). -/
def State.writeWord (s : State) (a v : Word) : State := (s.memWrite a (loByte v)).memWrite (a + 1) (hiByte v)

/-- `Push16(v)`: the high byte first, at the higher address (R58). -/
def State.push (s : State) (v : Word) : State :=
  let s1 := s.setSp (s.sp - 1)
  let s2 := s1.memWrite s1.sp (hiByte v)
  let s3 := s2.setSp (s2.sp - 1)
  s3.memWrite s3.sp (loByte v)

/-- The value of `Pop16()` (R59). -/
def State.popWord (s : State) : Word := s.readWord s.sp

/-- What `Pop16()` leaves: both bytes read, SP two higher (R59). -/
def State.afterPop (s : State) : State := (s.afterReadWord s.sp).setSp (s.sp + 2)

/-! ### Ports (R52, R60) -/

def State.logEvent (s : State) (e : PortEvent) : State := { s with events := s.events ++ [e] }

/-- The byte `PortIn` answers for a read of the port now. -/
def State.portByte (s : State) (p : Word) : Byte := s.nextAnswer (Config.portIn s.draws p)

/-- What `PortRead(p)` leaves; its value is `portByte p`. -/
def State.afterPortRead (s : State) (p : Word) : State :=
  ((s.tick .portRead p 4).draw).logEvent (.portIn p (s.portByte p))

/-- `PortWrite(p, v)`. -/
def State.portWrite (s : State) (p : Word) (v : Byte) : State := (s.tick .portWrite p 4).logEvent (.portOut p v)

/-! ### Fetching (R71, R72, R91) -/

/-- What `Fetch()` leaves; its value is `byteAt pc`. -/
def State.fetchOp (s : State) : State :=
  ((((s.tick .contendRead s.pc 4).drawAt s.pc).bumpR)).setPc (s.pc + 1)

/-- What `n` calls of `Fetch()` leave. -/
def State.fetchOps (s : State) : Nat → State
  | 0 => s
  | n + 1 => (s.fetchOps n).fetchOp

/-- What `FetchImm()` leaves; its value is `byteAt pc`. -/
def State.fetchImm (s : State) : State := ((s.tick .contendRead s.pc 3).drawAt s.pc).setPc (s.pc + 1)

/-- What two calls of `FetchImm()` leave. -/
def State.fetchImm2 (s : State) : State := s.fetchImm.fetchImm

/-- What the fetch of an indexed-CB sub-opcode leaves: 3 T-states, 2 more at the same address, R unchanged (R91). -/
def State.fetchSubOp (s : State) : State :=
  (((s.tick .contendRead s.pc 3).drawAt s.pc).noMreq s.pc 2).setPc (s.pc + 1)

/-- The next `n` bytes a fetch would give from an address on, device draws in order (R60, R68). -/
def bytesFrom : Nat → State → Word → List Byte
  | 0, _, _ => []
  | n + 1, s, a => s.byteAt a :: bytesFrom n (s.drawAt a) (a + 1)

/-- The four bytes from the program counter on: as many as the longest instruction has (R94). -/
def State.fetchWindow (s : State) : List Byte := bytesFrom 4 s s.pc

/-! ### The interrupt: acceptance and return (R285 to R287, R298) -/

/-- `raise Fault(reason)` (R300). -/
def State.raise (s : State) (r : Fault) : State := { s with faulted := some r }

/-- The common part of an acceptance, up to and with the push of PC (R287). -/
def State.interruptEntry (s : State) : State :=
  let s1 := if s.halted then (s.setHalted false).setPc (s.pc + 1) else s
  let s2 := ((s1.addT Config.acceptTicks).bumpR).setIffs false false
  s2.push s2.pc

/-- The address of the IM 2 table entry (R284). -/
def State.im2Entry (s : State) : Word := mkWord s.i Config.im2LowByte

/-- The acceptance of a maskable interrupt: what is saved, what changes, where PC goes (R283 to R287). -/
def State.acceptInterrupt (s : State) : InterruptResult :=
  let s1 := s.interruptEntry
  match s1.im with
  | 0 => .accepted (s1.setPc Config.interruptVector)
  | 1 => .accepted (s1.setPc Config.interruptVector)
  | 2 => .accepted ((s1.afterReadWord s1.im2Entry).setPc (s1.readWord s1.im2Entry))
  | m => .fault (.badInterruptMode m) (s1.raise (.badInterruptMode m))

/-- The return from an interrupt handler, RETN and RETI alike: IFF1 takes IFF2, PC is popped, nothing else is restored
(R221, R222, R298). -/
def State.returnFromInterrupt (s : State) : State :=
  let s1 := s.setIffs s.iff2 s.iff2
  s1.afterPop.setPc s1.popWord

end Sys2Proof.Machine
end

