-- ==== Sys2Proof/Machine/Operands.lean ====
section
/-! DEFINITION. The operand forms: register pairs by field, conditions, effective addresses, and the 8-bit source operand of
the ALU with what reading it leaves (spec 30_encoding R75 to R78, R87, R88, R91; 41_alu8 R148). -/

namespace Sys2Proof.Machine

/-- `rp[p]` (R76). -/
def State.rp (s : State) : RP → Word
  | .bc => s.bc
  | .de => s.de
  | .hl => s.hl
  | .sp => s.sp

def State.setRp (s : State) (p : RP) (v : Word) : State :=
  match p with
  | .bc => s.setBc v
  | .de => s.setDe v
  | .hl => s.setHl v
  | .sp => s.setSp v

/-- `rp2[p]` (R77). -/
def State.rp2 (s : State) : RP2 → Word
  | .bc => s.bc
  | .de => s.de
  | .hl => s.hl
  | .af => s.af

def State.setRp2 (s : State) (p : RP2) (v : Word) : State :=
  match p with
  | .bc => s.setBc v
  | .de => s.setDe v
  | .hl => s.setHl v
  | .af => s.setAf v

/-- `rp[p]` with HL replaced by XY (R87). -/
def State.pp (s : State) (xy : XY) : PP → Word
  | .bc => s.bc
  | .de => s.de
  | .xy => s.xy xy
  | .sp => s.sp

/-- The address register of `LD A,(rr)` and `LD (rr),A` (R116, R117). -/
def State.rr (s : State) : RR → Word
  | .bc => s.bc
  | .de => s.de

/-- The destination of `LD r,XYh` (R87). -/
def State.setXReg (s : State) (xy : XY) (r : XReg) (v : Byte) : State :=
  match r with
  | .b => s.setR8 .b v
  | .c => s.setR8 .c v
  | .d => s.setR8 .d v
  | .e => s.setR8 .e v
  | .xh => s.setHalf xy .hi v
  | .xl => s.setHalf xy .lo v
  | .a => s.setR8 .a v

/-- The test of F a condition field selects (R78). -/
def State.cond (s : State) : Cond → Bool
  | .nz => !s.f.getLsbD 6
  | .z => s.f.getLsbD 6
  | .nc => !s.f.getLsbD 0
  | .c => s.f.getLsbD 0
  | .po => !s.f.getLsbD 2
  | .pe => s.f.getLsbD 2
  | .p => !s.f.getLsbD 7
  | .m => s.f.getLsbD 7

/-- `XY + sext_16(d)`, modulo 2^16 (R88). -/
def State.eaXy (s : State) (xy : XY) (d : Byte) : Word := s.xy xy + sext16 d

/-- What the fetch of a displacement `d` of an `(XY+d)` operand leaves, with the five T-states the core spends on the sum:
they bring the total to R320's (log 6). -/
def State.fetchDisp (s : State) : State := s.fetchImm.noMreq s.pc 5

/-- What the indexed-CB path leaves: `d` fetched, SCR set, the sub-opcode fetched (R91). -/
def State.enterIndexedCb (s : State) (xy : XY) (d : Byte) : State := (s.fetchImm.setScr (s.eaXy xy d)).fetchSubOp

/-- The forms of an 8-bit source operand (R148). -/
inductive Source where
  | reg (r : R8)
  | half (xy : XY) (h : Half)
  | imm (n : Byte)
  | memHl
  | memXyd (xy : XY) (d : Byte)
  deriving DecidableEq, Repr

/-- The value of a source operand (R148). -/
def State.sourceVal (s : State) : Source → Byte
  | .reg r => s.r8 r
  | .half xy h => s.half xy h
  | .imm n => n
  | .memHl => s.byteAt s.hl
  | .memXyd xy d => s.fetchDisp.byteAt (s.eaXy xy d)

/-- What reading a source operand leaves (R148). -/
def State.afterSource (s : State) : Source → State
  | .reg _ => s
  | .half _ _ => s
  | .imm _ => s.fetchImm
  | .memHl => s.afterRead s.hl
  | .memXyd xy d => s.fetchDisp.afterRead (s.eaXy xy d)

/-- What a read and write of one memory byte leave, with the one extra cycle between them: `MemRead(ea, 1)`,
`contendReadNoMreq(ea, 1)`, `MemWrite(ea, 1, v)` (R159, R185). The byte read is `byteAt ea`. -/
def State.modifyByte (s : State) (ea : Word) (v : Byte) : State := ((s.afterRead ea).noMreq ea 1).memWrite ea v


/-- What a meaning answers. -/
abbrev Result := Host.Outcome State Fault Refusal

end Sys2Proof.Machine
end

