-- ==== Sys2Proof/Machine/Alu16.lean ====
section
/-! DEFINITION. 16-bit arithmetic (spec 42_alu16). The cycles on IR bring each total to R320's (log 6). -/

namespace Sys2Proof.Machine

/-- `ADD HL,ss` (R171). -/
def execAddHlSs (ss : RP) (s : State) : Result :=
  .next (((s.noMreq s.ir 7).setHl (add16 s.hl (s.rp ss))).setF (add16F s.f s.hl (s.rp ss)))

/-- `ADD XY,pp` (R171). -/
def execAddXyPp (xy : XY) (pp : PP) (s : State) : Result :=
  .next (((s.noMreq s.ir 7).setXy xy (add16 (s.xy xy) (s.pp xy pp))).setF (add16F s.f (s.xy xy) (s.pp xy pp)))

/-- `ADC HL,ss` (R172). -/
def execAdcHlSs (ss : RP) (s : State) : Result :=
  .next (((s.noMreq s.ir 7).setHl (adc16 s.hl (s.rp ss) (carryOf s.f))).setF (adc16F s.hl (s.rp ss) (carryOf s.f)))

/-- `SBC HL,ss` (R173). -/
def execSbcHlSs (ss : RP) (s : State) : Result :=
  .next (((s.noMreq s.ir 7).setHl (sbc16 s.hl (s.rp ss) (carryOf s.f))).setF (sbc16F s.hl (s.rp ss) (carryOf s.f)))

/-- `INC ss` (R174). -/
def execIncSs (ss : RP) (s : State) : Result := .next ((s.noMreq s.ir 2).setRp ss (s.rp ss + 1))

/-- `INC XY` (R174). -/
def execIncXy (xy : XY) (s : State) : Result := .next ((s.noMreq s.ir 2).setXy xy (s.xy xy + 1))

/-- `DEC ss` (R175). -/
def execDecSs (ss : RP) (s : State) : Result := .next ((s.noMreq s.ir 2).setRp ss (s.rp ss - 1))

/-- `DEC XY` (R175). -/
def execDecXy (xy : XY) (s : State) : Result := .next ((s.noMreq s.ir 2).setXy xy (s.xy xy - 1))

end Sys2Proof.Machine
end

