-- ==== Sys2Proof/Machine/Alu8.lean ====
section
/-! DEFINITION. 8-bit arithmetic and logic (spec 41_alu8). -/

namespace Sys2Proof.Machine

/-! ### The eight operations on A and a source operand (R148 to R158) -/

/-- Reads the operand, then writes A and F from it. -/
def State.aluWrite (s : State) (src : Source) (res flags : Byte → Byte) : State :=
  let v := s.sourceVal src
  ((s.afterSource src).setR8 .a (res v)).setF (flags v)

/-- `ADD A,s` (R151). -/
def State.addA (s : State) (src : Source) : State := s.aluWrite src (add8 s.main.a · false) (add8F s.main.a · false)

/-- `ADC A,s` (R152). -/
def State.adcA (s : State) (src : Source) : State :=
  s.aluWrite src (add8 s.main.a · (carryOf s.f)) (add8F s.main.a · (carryOf s.f))

/-- `SUB s` (R153). -/
def State.subA (s : State) (src : Source) : State := s.aluWrite src (sub8 s.main.a · false) (sub8F s.main.a · false)

/-- `SBC A,s` (R154). -/
def State.sbcA (s : State) (src : Source) : State :=
  s.aluWrite src (sub8 s.main.a · (carryOf s.f)) (sub8F s.main.a · (carryOf s.f))

/-- `AND s` (R155). -/
def State.andA (s : State) (src : Source) : State := s.aluWrite src (s.main.a &&& ·) (fun v => flagH ||| sz53p (s.main.a &&& v))

/-- `XOR s` (R156). -/
def State.xorA (s : State) (src : Source) : State := s.aluWrite src (s.main.a ^^^ ·) (fun v => sz53p (s.main.a ^^^ v))

/-- `OR s` (R157). -/
def State.orA (s : State) (src : Source) : State := s.aluWrite src (s.main.a ||| ·) (fun v => sz53p (s.main.a ||| v))

/-- `CP s`: A is not written (R158). -/
def State.cpA (s : State) (src : Source) : State := (s.afterSource src).setF (cpF s.main.a (s.sourceVal src))

/-- `INC m` on the byte at an address (R159). -/
def State.incMem (s : State) (ea : Word) : State := (s.modifyByte ea (s.byteAt ea + 1)).setF (inc8F s.f (s.byteAt ea))

/-- `DEC m` on the byte at an address (R160). -/
def State.decMem (s : State) (ea : Word) : State := (s.modifyByte ea (s.byteAt ea - 1)).setF (dec8F s.f (s.byteAt ea))

/-- `ADD A,r` (R151). -/
def execAddAR (r : R8) (s : State) : Result := .next (s.addA (.reg r))

/-- `ADD A,(HL)` (R151). -/
def execAddAMemHl (s : State) : Result := .next (s.addA .memHl)

/-- `ADD A,n` (R151). -/
def execAddAN (n : Byte) (s : State) : Result := .next (s.addA (.imm n))

/-- `ADD A,XYh` (R151). -/
def execAddAXyh (xy : XY) (h : Half) (s : State) : Result := .next (s.addA (.half xy h))

/-- `ADD A,(XY+d)` (R151). -/
def execAddAXyd (xy : XY) (d : Byte) (s : State) : Result := .next (s.addA (.memXyd xy d))

/-- `ADC A,r` (R152). -/
def execAdcAR (r : R8) (s : State) : Result := .next (s.adcA (.reg r))

/-- `ADC A,(HL)` (R152). -/
def execAdcAMemHl (s : State) : Result := .next (s.adcA .memHl)

/-- `ADC A,n` (R152). -/
def execAdcAN (n : Byte) (s : State) : Result := .next (s.adcA (.imm n))

/-- `ADC A,XYh` (R152). -/
def execAdcAXyh (xy : XY) (h : Half) (s : State) : Result := .next (s.adcA (.half xy h))

/-- `ADC A,(XY+d)` (R152). -/
def execAdcAXyd (xy : XY) (d : Byte) (s : State) : Result := .next (s.adcA (.memXyd xy d))

/-- `SUB r` (R153). -/
def execSubR (r : R8) (s : State) : Result := .next (s.subA (.reg r))

/-- `SUB (HL)` (R153). -/
def execSubMemHl (s : State) : Result := .next (s.subA .memHl)

/-- `SUB n` (R153). -/
def execSubN (n : Byte) (s : State) : Result := .next (s.subA (.imm n))

/-- `SUB XYh` (R153). -/
def execSubXyh (xy : XY) (h : Half) (s : State) : Result := .next (s.subA (.half xy h))

/-- `SUB (XY+d)` (R153). -/
def execSubXyd (xy : XY) (d : Byte) (s : State) : Result := .next (s.subA (.memXyd xy d))

/-- `SBC A,r` (R154). -/
def execSbcAR (r : R8) (s : State) : Result := .next (s.sbcA (.reg r))

/-- `SBC A,(HL)` (R154). -/
def execSbcAMemHl (s : State) : Result := .next (s.sbcA .memHl)

/-- `SBC A,n` (R154). -/
def execSbcAN (n : Byte) (s : State) : Result := .next (s.sbcA (.imm n))

/-- `SBC A,XYh` (R154). -/
def execSbcAXyh (xy : XY) (h : Half) (s : State) : Result := .next (s.sbcA (.half xy h))

/-- `SBC A,(XY+d)` (R154). -/
def execSbcAXyd (xy : XY) (d : Byte) (s : State) : Result := .next (s.sbcA (.memXyd xy d))

/-- `AND r` (R155). -/
def execAndR (r : R8) (s : State) : Result := .next (s.andA (.reg r))

/-- `AND (HL)` (R155). -/
def execAndMemHl (s : State) : Result := .next (s.andA .memHl)

/-- `AND n` (R155). -/
def execAndN (n : Byte) (s : State) : Result := .next (s.andA (.imm n))

/-- `AND XYh` (R155). -/
def execAndXyh (xy : XY) (h : Half) (s : State) : Result := .next (s.andA (.half xy h))

/-- `AND (XY+d)` (R155). -/
def execAndXyd (xy : XY) (d : Byte) (s : State) : Result := .next (s.andA (.memXyd xy d))

/-- `XOR r` (R156). -/
def execXorR (r : R8) (s : State) : Result := .next (s.xorA (.reg r))

/-- `XOR (HL)` (R156). -/
def execXorMemHl (s : State) : Result := .next (s.xorA .memHl)

/-- `XOR n` (R156). -/
def execXorN (n : Byte) (s : State) : Result := .next (s.xorA (.imm n))

/-- `XOR XYh` (R156). -/
def execXorXyh (xy : XY) (h : Half) (s : State) : Result := .next (s.xorA (.half xy h))

/-- `XOR (XY+d)` (R156). -/
def execXorXyd (xy : XY) (d : Byte) (s : State) : Result := .next (s.xorA (.memXyd xy d))

/-- `OR r` (R157). -/
def execOrR (r : R8) (s : State) : Result := .next (s.orA (.reg r))

/-- `OR (HL)` (R157). -/
def execOrMemHl (s : State) : Result := .next (s.orA .memHl)

/-- `OR n` (R157). -/
def execOrN (n : Byte) (s : State) : Result := .next (s.orA (.imm n))

/-- `OR XYh` (R157). -/
def execOrXyh (xy : XY) (h : Half) (s : State) : Result := .next (s.orA (.half xy h))

/-- `OR (XY+d)` (R157). -/
def execOrXyd (xy : XY) (d : Byte) (s : State) : Result := .next (s.orA (.memXyd xy d))

/-- `CP r` (R158). -/
def execCpR (r : R8) (s : State) : Result := .next (s.cpA (.reg r))

/-- `CP (HL)` (R158). -/
def execCpMemHl (s : State) : Result := .next (s.cpA .memHl)

/-- `CP n` (R158). -/
def execCpN (n : Byte) (s : State) : Result := .next (s.cpA (.imm n))

/-- `CP XYh` (R158). -/
def execCpXyh (xy : XY) (h : Half) (s : State) : Result := .next (s.cpA (.half xy h))

/-- `CP (XY+d)` (R158). -/
def execCpXyd (xy : XY) (d : Byte) (s : State) : Result := .next (s.cpA (.memXyd xy d))

/-! ### Increment and decrement -/

/-- `INC r` (R159). -/
def execIncR (r : R8) (s : State) : Result := .next ((s.setR8 r (s.r8 r + 1)).setF (inc8F s.f (s.r8 r)))

/-- `INC XYh` (R159). -/
def execIncXyh (xy : XY) (h : Half) (s : State) : Result :=
  .next ((s.setHalf xy h (s.half xy h + 1)).setF (inc8F s.f (s.half xy h)))

/-- `INC (HL)` (R159). -/
def execIncMemHl (s : State) : Result := .next (s.incMem s.hl)

/-- `INC (XY+d)` (R159). -/
def execIncXyd (xy : XY) (d : Byte) (s : State) : Result := .next (s.fetchDisp.incMem (s.eaXy xy d))

/-- `DEC r` (R160). -/
def execDecR (r : R8) (s : State) : Result := .next ((s.setR8 r (s.r8 r - 1)).setF (dec8F s.f (s.r8 r)))

/-- `DEC XYh` (R160). -/
def execDecXyh (xy : XY) (h : Half) (s : State) : Result :=
  .next ((s.setHalf xy h (s.half xy h - 1)).setF (dec8F s.f (s.half xy h)))

/-- `DEC (HL)` (R160). -/
def execDecMemHl (s : State) : Result := .next (s.decMem s.hl)

/-- `DEC (XY+d)` (R160). -/
def execDecXyd (xy : XY) (d : Byte) (s : State) : Result := .next (s.fetchDisp.decMem (s.eaXy xy d))

/-! ### Accumulator adjustments -/

/-- `DAA` (R161). -/
def execDaa (s : State) : Result := .next ((s.setR8 .a (daaA s.main.a s.f)).setF (daaF s.main.a s.f))

/-- `CPL` (R162). -/
def execCpl (s : State) : Result := .next ((s.setR8 .a (s.main.a ^^^ 0xFF)).setF (cplF s.f (s.main.a ^^^ 0xFF)))

/-- `NEG` (R163). -/
def execNeg (_y : BitVec 3) (s : State) : Result :=
  .next ((s.setR8 .a (sub8 0 s.main.a false)).setF (sub8F 0 s.main.a false))

/-- `CCF` (R164). -/
def execCcf (s : State) : Result := .next (s.setF (ccfF s.f s.main.a))

/-- `SCF` (R165). -/
def execScf (s : State) : Result := .next (s.setF (scfF s.f s.main.a))

end Sys2Proof.Machine
end

