-- ==== Sys2Proof/Machine/Block.lean ====
section
/-! DEFINITION. Block transfer, search and I/O (spec 45_block): one unit of work for each execution. -/

namespace Sys2Proof.Machine

/-- The direction of a block instruction (R232). -/
inductive Dir where
  | up | down
  deriving DecidableEq, Repr

/-- `d` on a pair. -/
def Dir.word : Dir → Word
  | .up => 1
  | .down => 0xFFFF

/-- `d` on a byte. -/
def Dir.byte : Dir → Byte
  | .up => 1
  | .down => 0xFF

/-- The repeat engine: while the condition holds, five T-states and PC back onto the ED byte (R230, R231). -/
def State.repeatIf (s : State) (again : Bool) (k : BusKind) (a : Word) : State :=
  if again then (s.ticks k a 5).setPc (s.pc - 2) else s

/-- `HL <- HL + d`. -/
def State.stepHl (s : State) (dir : Dir) : State := s.setHl (s.hl + dir.word)

/-- `DE <- DE + d`. -/
def State.stepDe (s : State) (dir : Dir) : State := s.setDe (s.de + dir.word)

/-- The transfer's unit of work, before the pointers move (section 2). -/
def State.ldUnit (s : State) : State :=
  let v := s.byteAt s.hl
  let s1 := (((s.afterRead s.hl).memWrite s.de v).noMreqWrite s.de 2).setBc (s.bc - 1)
  s1.setF (ldBlockF s.f s.main.a v s1.bc)

/-- `LDstep(d)` without the repeat (R233, R234). -/
def State.ldStep (s : State) (dir : Dir) : State := (s.ldUnit.stepHl dir).stepDe dir

/-- `LDstep(d)` with the repeat (R235, R236). -/
def State.ldRepeat (s : State) (dir : Dir) : State :=
  let s1 := s.ldUnit
  ((s1.repeatIf (s1.bc != 0) .contendWriteNoMreq s1.de).stepHl dir).stepDe dir

/-- The search's unit of work, before the pointer moves (section 3). -/
def State.cpUnit (s : State) : State :=
  let v := s.byteAt s.hl
  let s1 := ((s.afterRead s.hl).noMreq s.hl 5).setBc (s.bc - 1)
  s1.setF (cpBlockF s.f s.main.a v s1.bc)

/-- `CPstep(d)` without the repeat (R237, R238). -/
def State.cpStep (s : State) (dir : Dir) : State := s.cpUnit.stepHl dir

/-- `CPstep(d)` with the repeat: BC not 0 and no match (R239, R240). -/
def State.cpRepeat (s : State) (dir : Dir) : State :=
  let s1 := s.cpUnit
  (s1.repeatIf (s1.f &&& (flagPV ||| flagZ) == flagPV) .contendReadNoMreq s1.hl).stepHl dir

/-- The input's unit of work, before the pointer moves: the port address is BC before B is decremented (section 4). -/
def State.inUnit (s : State) (dir : Dir) : State :=
  let s0 := s.noMreq s.ir 1
  let v := s0.portByte s0.bc
  let s1 := ((s0.afterPortRead s0.bc).memWrite s0.hl v).setR8 .b (s0.main.b - 1)
  s1.setF (ioBlockF v (s1.main.c + dir.byte) s1.main.b)

/-- `INstep(d)` without the repeat (R241, R242). -/
def State.inStep (s : State) (dir : Dir) : State := (s.inUnit dir).stepHl dir

/-- `INstep(d)` with the repeat (R243, R244). -/
def State.inRepeat (s : State) (dir : Dir) : State :=
  let s1 := s.inUnit dir
  (s1.repeatIf (s1.main.b != 0) .contendWriteNoMreq s1.hl).stepHl dir

/-- `OUTstep(d)` without the repeat: B is decremented before the port write, and L is taken after HL moves
(section 5; R245, R246). -/
def State.outStep (s : State) (dir : Dir) : State :=
  let s0 := s.noMreq s.ir 1
  let v := s0.byteAt s0.hl
  let s1 := (s0.afterRead s0.hl).setR8 .b (s0.main.b - 1)
  let s2 := (s1.portWrite s1.bc v).stepHl dir
  s2.setF (ioBlockF v s2.main.l s2.main.b)

/-- `OUTstep(d)` with the repeat (R247, R248). -/
def State.outRepeat (s : State) (dir : Dir) : State :=
  let s1 := s.outStep dir
  s1.repeatIf (s1.main.b != 0) .contendReadNoMreq s1.bc

/-- `LDI` (R233). -/
def execLdi (s : State) : Result := .next (s.ldStep .up)

/-- `LDD` (R234). -/
def execLdd (s : State) : Result := .next (s.ldStep .down)

/-- `LDIR` (R235). -/
def execLdir (s : State) : Result := .next (s.ldRepeat .up)

/-- `LDDR` (R236). -/
def execLddr (s : State) : Result := .next (s.ldRepeat .down)

/-- `CPI` (R237). -/
def execCpi (s : State) : Result := .next (s.cpStep .up)

/-- `CPD` (R238). -/
def execCpd (s : State) : Result := .next (s.cpStep .down)

/-- `CPIR` (R239). -/
def execCpir (s : State) : Result := .next (s.cpRepeat .up)

/-- `CPDR` (R240). -/
def execCpdr (s : State) : Result := .next (s.cpRepeat .down)

/-- `INI` (R241). -/
def execIni (s : State) : Result := .next (s.inStep .up)

/-- `IND` (R242). -/
def execInd (s : State) : Result := .next (s.inStep .down)

/-- `INIR` (R243). -/
def execInir (s : State) : Result := .next (s.inRepeat .up)

/-- `INDR` (R244). -/
def execIndr (s : State) : Result := .next (s.inRepeat .down)

/-- `OUTI` (R245). -/
def execOuti (s : State) : Result := .next (s.outStep .up)

/-- `OUTD` (R246). -/
def execOutd (s : State) : Result := .next (s.outStep .down)

/-- `OTIR` (R247). -/
def execOtir (s : State) : Result := .next (s.outRepeat .up)

/-- `OTDR` (R248). -/
def execOtdr (s : State) : Result := .next (s.outRepeat .down)

end Sys2Proof.Machine
end

