-- ==== Sys2Proof/Machine/Control.lean ====
section
/-! DEFINITION. Jumps, calls, returns and restarts (spec 44_control). -/

namespace Sys2Proof.Machine

/-- A relative jump taken: five T-states on the offset's address, then PC moves (R213 to R215; log 6). -/
def State.jumpRel (s : State) (e : Byte) : State := (s.noMreq (s.pc - 1) 5).setPc (s.pc + sext16 e)

/-- A call taken: one T-state on the last fetched address, the push of PC, the jump (R217; log 6). -/
def State.call (s : State) (nn : Word) : State := ((s.noMreq (s.pc - 1) 1).push s.pc).setPc nn

/-- A return taken (R219). -/
def State.popPc (s : State) : State := s.afterPop.setPc s.popWord

/-- The target of `RST p` (R82). -/
def rstTarget (p : BitVec 3) : Word := BitVec.ofNat 16 (8 * p.toNat)

/-- `JP nn` (R211). -/
def execJpNn (nn : Word) (s : State) : Result := .next (s.fetchImm2.setPc nn)

/-- `JP cc,nn` (R212). -/
def execJpCcNn (cc : Cond) (nn : Word) (s : State) : Result :=
  .next (if s.cond cc then s.fetchImm2.setPc nn else s.fetchImm2)

/-- `JR e` (R213). -/
def execJr (e : Byte) (s : State) : Result := .next (s.fetchImm.jumpRel e)

/-- `JR cc,e` (R214). -/
def execJrCc (cc : Cond) (e : Byte) (s : State) : Result := .next (if s.cond cc then s.fetchImm.jumpRel e else s.fetchImm)

/-- `DJNZ e` (R215). -/
def execDjnz (e : Byte) (s : State) : Result :=
  
  let s1 := ((s.noMreq s.ir 1).setR8 .b (s.main.b - 1)).fetchImm
  .next (if s1.main.b = 0 then s1 else s1.jumpRel e)

/-- `JP (HL)` (R216). -/
def execJpHl (s : State) : Result := .next (s.setPc s.hl)

/-- `JP (XY)` (R216). -/
def execJpXy (xy : XY) (s : State) : Result := .next (s.setPc (s.xy xy))

/-- `CALL nn` (R217). -/
def execCallNn (nn : Word) (s : State) : Result := .next (s.fetchImm2.call nn)

/-- `CALL cc,nn` (R218). -/
def execCallCcNn (cc : Cond) (nn : Word) (s : State) : Result :=
  .next (if s.cond cc then s.fetchImm2.call nn else s.fetchImm2)

/-- `RET` (R219). -/
def execRet (s : State) : Result := .next (s.popPc)

/-- `RET cc` (R220). -/
def execRetCc (cc : Cond) (s : State) : Result := 
  let s1 := s.noMreq s.ir 1
  .next (if s1.cond cc then s1.popPc else s1)

/-- `RETN` (R221). -/
def execRetn (_y : BitVec 3) (s : State) : Result := .next (s.returnFromInterrupt)

/-- `RETI` (R222). -/
def execReti (s : State) : Result := .next (s.returnFromInterrupt)

/-- `RST p` (R223). -/
def execRst (p : BitVec 3) (s : State) : Result := .next (((s.noMreq s.ir 1).push s.pc).setPc (rstTarget p))

end Sys2Proof.Machine
end

