-- ==== Sys2Proof/Machine/IoCpu.lean ====
section
/-! DEFINITION. Port I/O and CPU control (spec 46_io_cpu_control). -/

namespace Sys2Proof.Machine

/-- The port address of `IN A,(n)` and `OUT (n),A` (R52). -/
def State.portAn (s : State) (n : Byte) : Word := mkWord s.main.a n

/-- `LD A,I` and `LD A,R` (R268, R269). -/
def State.loadAFromIr (s : State) (v : Byte) : State := ((s.noMreq s.ir 1).setR8 .a v).setF (loadIrF s.f v s.iff2)

/-- `IN A,(n)` (R250). -/
def execInAN (n : Byte) (s : State) : Result :=
  .next ((s.fetchImm.afterPortRead (s.portAn n)).setR8 .a (s.fetchImm.portByte (s.portAn n)))

/-- `IN r,(C)` (R251). -/
def execInRC (r : R8) (s : State) : Result :=
  .next (((s.afterPortRead s.bc).setF (keepCSz53p s.f (s.portByte s.bc))).setR8 r (s.portByte s.bc))

/-- `IN F,(C)` (R252). -/
def execInFC (s : State) : Result := .next ((s.afterPortRead s.bc).setF (keepCSz53p s.f (s.portByte s.bc)))

/-- `OUT (n),A` (R253). -/
def execOutNA (n : Byte) (s : State) : Result := .next (s.fetchImm.portWrite (s.portAn n) (s.r8 .a))

/-- `OUT (C),r` (R254). -/
def execOutCR (r : R8) (s : State) : Result := .next (s.portWrite s.bc (s.r8 r))

/-- `OUT (C),0` (R255). -/
def execOutC0 (s : State) : Result := .next (s.portWrite s.bc 0x00)

/-- `NOP` (R256). -/
def execNop (s : State) : Result := .next (s)

/-- `DI` (R257). -/
def execDi (s : State) : Result := .next (s.setIffs false false)

/-- `EI` (R258). -/
def execEi (s : State) : Result := .next ((s.setIffs true true).setEiDelay true)

/-- `HALT` (R260). -/
def execHalt (s : State) : Result := .next ((s.setHalted true).setPc (s.pc - 1))

/-- `NOP(ED)` (R262). -/
def execNopEd (_op : Byte) (s : State) : Result := .next (s)

/-- `IM 0` (R263). -/
def execIm0 (_y : BitVec 3) (s : State) : Result := .next (s.setIm 0)

/-- `IM 1` (R264). -/
def execIm1 (_y : BitVec 3) (s : State) : Result := .next (s.setIm 1)

/-- `IM 2` (R265). -/
def execIm2 (_y : BitVec 3) (s : State) : Result := .next (s.setIm 2)

/-- `LD I,A` (R266). -/
def execLdIA (s : State) : Result := .next ((s.noMreq s.ir 1).setI (s.r8 .a))

/-- `LD R,A` (R267). -/
def execLdRA (s : State) : Result := .next ((s.noMreq s.ir 1).setR (s.r8 .a))

/-- `LD A,I` (R268). -/
def execLdAI (s : State) : Result := .next (s.loadAFromIr s.i)

/-- `LD A,R` (R269). -/
def execLdAR (s : State) : Result := .next (s.loadAFromIr s.rByte)

end Sys2Proof.Machine
end

