-- ==== Sys2Proof/Machine/LoadExchange.lean ====
section
/-! DEFINITION. Loads, stack and exchanges (spec 40_load_exchange). A meaning starts after the opcode fetches (R12). -/

namespace Sys2Proof.Machine

/-- `LD r,(XY+d)` (R113). -/
def State.loadXyd (s : State) (xy : XY) (r : R8) (d : Byte) : State :=
  let ea := s.eaXy xy d
  (s.fetchDisp.afterRead ea).setR8 r (s.fetchDisp.byteAt ea)

/-- `LD (XY+d),r` (R114). -/
def State.storeXyd (s : State) (xy : XY) (r : R8) (d : Byte) : State := s.fetchDisp.memWrite (s.eaXy xy d) (s.r8 r)

/-- The stack half of `EX (SP),P`: the word on top is read, then P's high and low bytes are written (R121). -/
def State.swapTop (s : State) (p : Word) : State :=
  let s1 := (s.afterReadWord s.sp).noMreq (s.sp + 1) 1
  ((s1.memWrite (s.sp + 1) (hiByte p)).memWrite s.sp (loByte p)).noMreqWrite s.sp 2

/-- `PUSH` (R126). -/
def State.pushPair (s : State) (v : Word) : State := (s.noMreq s.ir 1).push v

/-- `LD SP,P` (R128). -/
def State.loadSp (s : State) (v : Word) : State := (s.noMreq s.ir 2).setSp v

/-! ### 8-bit loads -/

/-- `LD r,r'` (R111). -/
def execLdRR (r : R8) (q : R8) (s : State) : Result := .next (s.setR8 r (s.r8 q))

/-- `LD r,XYh` (R111). -/
def execLdRXyh (xy : XY) (r : XReg) (h : Half) (s : State) : Result := .next (s.setXReg xy r (s.half xy h))

/-- `LD XYh,r` (R111). -/
def execLdXyhR (xy : XY) (h : Half) (r : R8) (s : State) : Result := .next (s.setHalf xy h (s.r8 r))

/-- `LD XYh,A` (R111). -/
def execLdXyhA (xy : XY) (h : Half) (s : State) : Result := .next (s.setHalf xy h (s.r8 .a))

/-- `LD r,n` (R112). -/
def execLdRN (r : R8) (n : Byte) (s : State) : Result := .next (s.fetchImm.setR8 r n)

/-- `LD XYh,n` (R112). -/
def execLdXyhN (xy : XY) (h : Half) (n : Byte) (s : State) : Result := .next (s.fetchImm.setHalf xy h n)

/-- `LD r,(HL)` (R113). -/
def execLdRMemHl (r : R8) (s : State) : Result := .next ((s.afterRead s.hl).setR8 r (s.byteAt s.hl))

/-- `LD r,(XY+d)` (R113). -/
def execLdRXyd (xy : XY) (r : R8) (d : Byte) (s : State) : Result := .next (s.loadXyd xy r d)

/-- `LD r,(XY+d)` (R113). -/
def execLdHlXyd (xy : XY) (r : R8) (d : Byte) (s : State) : Result := .next (s.loadXyd xy r d)

/-- `LD A,(XY+d)` (R113). -/
def execLdAXyd (xy : XY) (d : Byte) (s : State) : Result := .next (s.loadXyd xy .a d)

/-- `LD (HL),r` (R114). -/
def execLdMemHlR (r : R8) (s : State) : Result := .next (s.memWrite s.hl (s.r8 r))

/-- `LD (XY+d),r` (R114). -/
def execLdXydR (xy : XY) (r : R8) (d : Byte) (s : State) : Result := .next (s.storeXyd xy r d)

/-- `LD (XY+d),r` (R114). -/
def execLdXydHl (xy : XY) (r : R8) (d : Byte) (s : State) : Result := .next (s.storeXyd xy r d)

/-- `LD (XY+d),A` (R114). -/
def execLdXydA (xy : XY) (d : Byte) (s : State) : Result := .next (s.storeXyd xy .a d)

/-- `LD (HL),n` (R115). -/
def execLdMemHlN (n : Byte) (s : State) : Result := .next (s.fetchImm.memWrite s.hl n)

/-- `LD (XY+d),n` (R115). -/
def execLdXydN (xy : XY) (d : Byte) (n : Byte) (s : State) : Result :=
  .next ((s.fetchImm2.noMreq (s.pc + 1) 2).memWrite (s.eaXy xy d) n)

/-- `LD A,(rr)` (R116). -/
def execLdAMemRr (rr : RR) (s : State) : Result := .next ((s.afterRead (s.rr rr)).setR8 .a (s.byteAt (s.rr rr)))

/-- `LD (rr),A` (R117). -/
def execLdMemRrA (rr : RR) (s : State) : Result := .next (s.memWrite (s.rr rr) (s.r8 .a))

/-- `LD A,(nn)` (R118). -/
def execLdAMemNn (nn : Word) (s : State) : Result := .next ((s.fetchImm2.afterRead nn).setR8 .a (s.fetchImm2.byteAt nn))

/-- `LD (nn),A` (R119). -/
def execLdMemNnA (nn : Word) (s : State) : Result := .next (s.fetchImm2.memWrite nn (s.r8 .a))

/-! ### 16-bit loads -/

/-- `LD dd,nn` (R120). -/
def execLdDdNn (dd : RP) (nn : Word) (s : State) : Result := .next (s.fetchImm2.setRp dd nn)

/-- `LD XY,nn` (R120). -/
def execLdXyNn (xy : XY) (nn : Word) (s : State) : Result := .next (s.fetchImm2.setXy xy nn)

/-- `LD HL,(nn)` (R122). -/
def execLdHlMemNn (nn : Word) (s : State) : Result := .next ((s.fetchImm2.afterReadWord nn).setHl (s.fetchImm2.readWord nn))

/-- `LD XY,(nn)` (R122). -/
def execLdXyMemNn (xy : XY) (nn : Word) (s : State) : Result :=
  .next ((s.fetchImm2.afterReadWord nn).setXy xy (s.fetchImm2.readWord nn))

/-- `LD (nn),HL` (R123). -/
def execLdMemNnHl (nn : Word) (s : State) : Result := .next (s.fetchImm2.writeWord nn s.hl)

/-- `LD (nn),XY` (R123). -/
def execLdMemNnXy (xy : XY) (nn : Word) (s : State) : Result := .next (s.fetchImm2.writeWord nn (s.xy xy))

/-- `LD dd,(nn)` (R124). -/
def execLdDdMemNn (dd : RP) (nn : Word) (s : State) : Result :=
  .next ((s.fetchImm2.afterReadWord nn).setRp dd (s.fetchImm2.readWord nn))

/-- `LD (nn),dd` (R125). -/
def execLdMemNnDd (dd : RP) (nn : Word) (s : State) : Result := .next (s.fetchImm2.writeWord nn (s.rp dd))

/-! ### Stack -/

/-- `PUSH qq` (R126). -/
def execPushQq (qq : RP2) (s : State) : Result := .next (s.pushPair (s.rp2 qq))

/-- `PUSH XY` (R126). -/
def execPushXy (xy : XY) (s : State) : Result := .next (s.pushPair (s.xy xy))

/-- `POP qq` (R127). -/
def execPopQq (qq : RP2) (s : State) : Result := .next (s.afterPop.setRp2 qq s.popWord)

/-- `POP XY` (R127). -/
def execPopXy (xy : XY) (s : State) : Result := .next (s.afterPop.setXy xy s.popWord)

/-- `LD SP,HL` (R128). -/
def execLdSpHl (s : State) : Result := .next (s.loadSp s.hl)

/-- `LD SP,XY` (R128). -/
def execLdSpXy (xy : XY) (s : State) : Result := .next (s.loadSp (s.xy xy))

/-! ### Exchanges -/

/-- `EX (SP),HL` (R121). -/
def execExSpHl (s : State) : Result := .next ((s.swapTop s.hl).setHl (s.readWord s.sp))

/-- `EX (SP),XY` (R121). -/
def execExSpXy (xy : XY) (s : State) : Result := .next ((s.swapTop (s.xy xy)).setXy xy (s.readWord s.sp))

/-- `EX DE,HL` (R129). -/
def execExDeHl (s : State) : Result := .next ((s.setDe s.hl).setHl s.de)

/-- `EX AF,AF'` (R130). -/
def execExAfAf (s : State) : Result :=
  .next ((s.setMain { s.main with a := s.shadow.a, f := s.shadow.f }).setShadow { s.shadow with a := s.main.a, f := s.main.f })

/-- `EXX` (R131). -/
def execExx (s : State) : Result :=
  .next ((s.setMain { s.shadow with a := s.main.a, f := s.main.f }).setShadow { s.main with a := s.shadow.a, f := s.shadow.f })

end Sys2Proof.Machine
end

