-- ==== Sys2Proof/Machine/PrefixByte.lean ====
section
/-! DEFINITION. The DD or FD byte that falls back: its only traces are its own fetch, which comes before the meaning, and the
walk goes on at the next byte inside the same step (spec 30_encoding R89, R90; Machine/Run.lean). -/

namespace Sys2Proof.Machine

/-- `DD/FD prefix (fallback)` (R89). -/
def execXyPrefix (_xy : XY) (s : State) : Result := .next (s)

end Sys2Proof.Machine
end

