-- ==== Sys2Proof/Machine/RotateBit.lean ====
section
/-! DEFINITION. Rotates, shifts, bit operations and the indexed-CB region (spec 43_rotate_bit). -/

namespace Sys2Proof.Machine

/-- A rotate of A (R181 to R184). -/
def State.rotateA (s : State) (op : Shift) : State :=
  (s.setR8 .a (op.result s.main.a (carryOf s.f))).setF (op.accFlags s.f s.main.a)

/-- A CB shift of a register (R185). -/
def State.shiftReg (s : State) (op : Shift) (r : R8) : State :=
  (s.setR8 r (op.result (s.r8 r) (carryOf s.f))).setF (op.flags (s.r8 r) (carryOf s.f))

/-- A CB shift of the byte at an address (R185). -/
def State.shiftMem (s : State) (op : Shift) (ea : Word) : State :=
  (s.modifyByte ea (op.result (s.byteAt ea) (carryOf s.f))).setF (op.flags (s.byteAt ea) (carryOf s.f))

/-- RES or SET of the byte at an address (R185, R196, R197). -/
def State.changeMem (s : State) (g : Byte → Byte) (ea : Word) : State := s.modifyByte ea (g (s.byteAt ea))

/-- A shift of the byte at SCR, after the indexed-CB path (R91, R185). -/
def State.shiftIndexed (s : State) (op : Shift) (xy : XY) (d : Byte) : State :=
  let s1 := s.enterIndexedCb xy d
  s1.shiftMem op s1.scr

/-- The same with the result copied into a register (R198). -/
def State.shiftIndexedCopy (s : State) (op : Shift) (xy : XY) (d : Byte) (r : R8) : State :=
  let s1 := s.enterIndexedCb xy d
  (s1.shiftMem op s1.scr).setR8 r (op.result (s1.byteAt s1.scr) (carryOf s1.f))

/-- RES or SET of the byte at SCR (R196, R197). -/
def State.changeIndexed (s : State) (g : Byte → Byte) (xy : XY) (d : Byte) : State :=
  let s1 := s.enterIndexedCb xy d
  s1.changeMem g s1.scr

/-- The same with the result copied into a register (R198). -/
def State.changeIndexedCopy (s : State) (g : Byte → Byte) (xy : XY) (d : Byte) (r : R8) : State :=
  let s1 := s.enterIndexedCb xy d
  (s1.changeMem g s1.scr).setR8 r (g (s1.byteAt s1.scr))

/-- `BIT b` on the byte at an address: a read and one cycle, nothing written but F; `x` gives X5 and X3 (R194, R195). -/
def State.bitMem (s : State) (b : BitVec 3) (ea : Word) (x : Byte) : State :=
  ((s.afterRead ea).noMreq ea 1).setF (bitF s.f (s.byteAt ea) x b)

/-- `BIT b,(XY+d)`: X5 and X3 come from the high byte of SCR (R195). -/
def State.bitIndexed (s : State) (b : BitVec 3) (xy : XY) (d : Byte) : State :=
  let s1 := s.enterIndexedCb xy d
  s1.bitMem b s1.scr (hiByte s1.scr)

/-- The access pattern of RLD and RRD on the byte at HL (R199, R200). -/
def State.nibbleRotate (s : State) (mem acc : Byte) : State :=
  (((((s.afterRead s.hl).noMreq s.hl 4).memWrite s.hl mem).setR8 .a acc).setF (keepCSz53p s.f acc))

/-! ### Accumulator rotates -/

/-- `RLCA` (R181). -/
def execRlca (s : State) : Result := .next (s.rotateA .rlc)

/-- `RRCA` (R182). -/
def execRrca (s : State) : Result := .next (s.rotateA .rrc)

/-- `RLA` (R183). -/
def execRla (s : State) : Result := .next (s.rotateA .rl)

/-- `RRA` (R184). -/
def execRra (s : State) : Result := .next (s.rotateA .rr)

/-! ### Shifts (R186 to R193, R198) -/

/-- `RLC r` (R186). -/
def execRlcR (r : R8) (s : State) : Result := .next (s.shiftReg .rlc r)

/-- `RLC (HL)` (R186). -/
def execRlcMemHl (s : State) : Result := .next (s.shiftMem .rlc s.hl)

/-- `RLC (XY+d)` (R186). -/
def execRlcXyd (xy : XY) (d : Byte) (s : State) : Result := .next (s.shiftIndexed .rlc xy d)

/-- `LD r,RLC (XY+d)` (R198). -/
def execLdRRlcXyd (xy : XY) (d : Byte) (r : R8) (s : State) : Result := .next (s.shiftIndexedCopy .rlc xy d r)

/-- `RRC r` (R187). -/
def execRrcR (r : R8) (s : State) : Result := .next (s.shiftReg .rrc r)

/-- `RRC (HL)` (R187). -/
def execRrcMemHl (s : State) : Result := .next (s.shiftMem .rrc s.hl)

/-- `RRC (XY+d)` (R187). -/
def execRrcXyd (xy : XY) (d : Byte) (s : State) : Result := .next (s.shiftIndexed .rrc xy d)

/-- `LD r,RRC (XY+d)` (R198). -/
def execLdRRrcXyd (xy : XY) (d : Byte) (r : R8) (s : State) : Result := .next (s.shiftIndexedCopy .rrc xy d r)

/-- `RL r` (R188). -/
def execRlR (r : R8) (s : State) : Result := .next (s.shiftReg .rl r)

/-- `RL (HL)` (R188). -/
def execRlMemHl (s : State) : Result := .next (s.shiftMem .rl s.hl)

/-- `RL (XY+d)` (R188). -/
def execRlXyd (xy : XY) (d : Byte) (s : State) : Result := .next (s.shiftIndexed .rl xy d)

/-- `LD r,RL (XY+d)` (R198). -/
def execLdRRlXyd (xy : XY) (d : Byte) (r : R8) (s : State) : Result := .next (s.shiftIndexedCopy .rl xy d r)

/-- `RR r` (R189). -/
def execRrR (r : R8) (s : State) : Result := .next (s.shiftReg .rr r)

/-- `RR (HL)` (R189). -/
def execRrMemHl (s : State) : Result := .next (s.shiftMem .rr s.hl)

/-- `RR (XY+d)` (R189). -/
def execRrXyd (xy : XY) (d : Byte) (s : State) : Result := .next (s.shiftIndexed .rr xy d)

/-- `LD r,RR (XY+d)` (R198). -/
def execLdRRrXyd (xy : XY) (d : Byte) (r : R8) (s : State) : Result := .next (s.shiftIndexedCopy .rr xy d r)

/-- `SLA r` (R190). -/
def execSlaR (r : R8) (s : State) : Result := .next (s.shiftReg .sla r)

/-- `SLA (HL)` (R190). -/
def execSlaMemHl (s : State) : Result := .next (s.shiftMem .sla s.hl)

/-- `SLA (XY+d)` (R190). -/
def execSlaXyd (xy : XY) (d : Byte) (s : State) : Result := .next (s.shiftIndexed .sla xy d)

/-- `LD r,SLA (XY+d)` (R198). -/
def execLdRSlaXyd (xy : XY) (d : Byte) (r : R8) (s : State) : Result := .next (s.shiftIndexedCopy .sla xy d r)

/-- `SRA r` (R191). -/
def execSraR (r : R8) (s : State) : Result := .next (s.shiftReg .sra r)

/-- `SRA (HL)` (R191). -/
def execSraMemHl (s : State) : Result := .next (s.shiftMem .sra s.hl)

/-- `SRA (XY+d)` (R191). -/
def execSraXyd (xy : XY) (d : Byte) (s : State) : Result := .next (s.shiftIndexed .sra xy d)

/-- `LD r,SRA (XY+d)` (R198). -/
def execLdRSraXyd (xy : XY) (d : Byte) (r : R8) (s : State) : Result := .next (s.shiftIndexedCopy .sra xy d r)

/-- `SLL r` (R192). -/
def execSllR (r : R8) (s : State) : Result := .next (s.shiftReg .sll r)

/-- `SLL (HL)` (R192). -/
def execSllMemHl (s : State) : Result := .next (s.shiftMem .sll s.hl)

/-- `SLL (XY+d)` (R192). -/
def execSllXyd (xy : XY) (d : Byte) (s : State) : Result := .next (s.shiftIndexed .sll xy d)

/-- `LD r,SLL (XY+d)` (R198). -/
def execLdRSllXyd (xy : XY) (d : Byte) (r : R8) (s : State) : Result := .next (s.shiftIndexedCopy .sll xy d r)

/-- `SRL r` (R193). -/
def execSrlR (r : R8) (s : State) : Result := .next (s.shiftReg .srl r)

/-- `SRL (HL)` (R193). -/
def execSrlMemHl (s : State) : Result := .next (s.shiftMem .srl s.hl)

/-- `SRL (XY+d)` (R193). -/
def execSrlXyd (xy : XY) (d : Byte) (s : State) : Result := .next (s.shiftIndexed .srl xy d)

/-- `LD r,SRL (XY+d)` (R198). -/
def execLdRSrlXyd (xy : XY) (d : Byte) (r : R8) (s : State) : Result := .next (s.shiftIndexedCopy .srl xy d r)

/-! ### Bit test, reset and set -/

/-- `BIT b,r` (R194). -/
def execBitBR (b : BitVec 3) (r : R8) (s : State) : Result := .next (s.setF (bitF s.f (s.r8 r) (s.r8 r) b))

/-- `BIT b,(HL)` (R194). -/
def execBitBMemHl (b : BitVec 3) (s : State) : Result := .next (s.bitMem b s.hl (s.byteAt s.hl))

/-- `BIT b,(XY+d)` (R195). -/
def execBitBXyd (xy : XY) (d : Byte) (b : BitVec 3) (_z : BitVec 3) (s : State) : Result := .next (s.bitIndexed b xy d)

/-- `RES b,r` (R196). -/
def execResBR (b : BitVec 3) (r : R8) (s : State) : Result := .next (s.setR8 r (resBit b (s.r8 r)))

/-- `RES b,(HL)` (R196). -/
def execResBMemHl (b : BitVec 3) (s : State) : Result := .next (s.changeMem (resBit b) s.hl)

/-- `RES b,(XY+d)` (R196). -/
def execResBXyd (xy : XY) (d : Byte) (b : BitVec 3) (s : State) : Result := .next (s.changeIndexed (resBit b) xy d)

/-- `LD r,RES b,(XY+d)` (R198). -/
def execLdRResBXyd (xy : XY) (d : Byte) (b : BitVec 3) (r : R8) (s : State) : Result :=
  .next (s.changeIndexedCopy (resBit b) xy d r)

/-- `SET b,r` (R197). -/
def execSetBR (b : BitVec 3) (r : R8) (s : State) : Result := .next (s.setR8 r (setBit b (s.r8 r)))

/-- `SET b,(HL)` (R197). -/
def execSetBMemHl (b : BitVec 3) (s : State) : Result := .next (s.changeMem (setBit b) s.hl)

/-- `SET b,(XY+d)` (R197). -/
def execSetBXyd (xy : XY) (d : Byte) (b : BitVec 3) (s : State) : Result := .next (s.changeIndexed (setBit b) xy d)

/-- `LD r,SET b,(XY+d)` (R198). -/
def execLdRSetBXyd (xy : XY) (d : Byte) (b : BitVec 3) (r : R8) (s : State) : Result :=
  .next (s.changeIndexedCopy (setBit b) xy d r)

/-! ### Nibble rotates -/

/-- `RLD` (R199). -/
def execRld (s : State) : Result :=
  .next (s.nibbleRotate (s.byteAt s.hl <<< 4 ||| (s.main.a &&& 0x0F)) ((s.main.a &&& 0xF0) ||| s.byteAt s.hl >>> 4))

/-- `RRD` (R200). -/
def execRrd (s : State) : Result :=
  .next (s.nibbleRotate (s.main.a <<< 4 ||| s.byteAt s.hl >>> 4) ((s.main.a &&& 0xF0) ||| (s.byteAt s.hl &&& 0x0F)))

end Sys2Proof.Machine
end

