-- ==== Sys2Proof/Machine/Dispatch.lean ====
section
/-! DEFINITION. The dispatch: one arm for each constructor of Instr, each one direct call of its meaning. -/

namespace Sys2Proof.Machine

def exec (i : Instr) (s : State) : Host.Outcome State Fault Refusal :=
  match i with
  | .nop => Sys2Proof.Machine.execNop s
  | .exAfAf => Sys2Proof.Machine.execExAfAf s
  | .djnz e => Sys2Proof.Machine.execDjnz e s
  | .jr e => Sys2Proof.Machine.execJr e s
  | .jrCc cc e => Sys2Proof.Machine.execJrCc cc e s
  | .ldDdNn dd nn => Sys2Proof.Machine.execLdDdNn dd nn s
  | .addHlSs ss => Sys2Proof.Machine.execAddHlSs ss s
  | .ldMemRrA rr => Sys2Proof.Machine.execLdMemRrA rr s
  | .ldAMemRr rr => Sys2Proof.Machine.execLdAMemRr rr s
  | .ldMemNnHl nn => Sys2Proof.Machine.execLdMemNnHl nn s
  | .ldHlMemNn nn => Sys2Proof.Machine.execLdHlMemNn nn s
  | .ldMemNnA nn => Sys2Proof.Machine.execLdMemNnA nn s
  | .ldAMemNn nn => Sys2Proof.Machine.execLdAMemNn nn s
  | .incSs ss => Sys2Proof.Machine.execIncSs ss s
  | .decSs ss => Sys2Proof.Machine.execDecSs ss s
  | .incR r => Sys2Proof.Machine.execIncR r s
  | .incMemHl => Sys2Proof.Machine.execIncMemHl s
  | .decR r => Sys2Proof.Machine.execDecR r s
  | .decMemHl => Sys2Proof.Machine.execDecMemHl s
  | .ldRN r n => Sys2Proof.Machine.execLdRN r n s
  | .ldMemHlN n => Sys2Proof.Machine.execLdMemHlN n s
  | .rlca => Sys2Proof.Machine.execRlca s
  | .rrca => Sys2Proof.Machine.execRrca s
  | .rla => Sys2Proof.Machine.execRla s
  | .rra => Sys2Proof.Machine.execRra s
  | .daa => Sys2Proof.Machine.execDaa s
  | .cpl => Sys2Proof.Machine.execCpl s
  | .scf => Sys2Proof.Machine.execScf s
  | .ccf => Sys2Proof.Machine.execCcf s
  | .ldRR r q => Sys2Proof.Machine.execLdRR r q s
  | .ldRMemHl r => Sys2Proof.Machine.execLdRMemHl r s
  | .ldMemHlR r => Sys2Proof.Machine.execLdMemHlR r s
  | .halt => Sys2Proof.Machine.execHalt s
  | .addAR r => Sys2Proof.Machine.execAddAR r s
  | .addAMemHl => Sys2Proof.Machine.execAddAMemHl s
  | .addAN n => Sys2Proof.Machine.execAddAN n s
  | .adcAR r => Sys2Proof.Machine.execAdcAR r s
  | .adcAMemHl => Sys2Proof.Machine.execAdcAMemHl s
  | .adcAN n => Sys2Proof.Machine.execAdcAN n s
  | .subR r => Sys2Proof.Machine.execSubR r s
  | .subMemHl => Sys2Proof.Machine.execSubMemHl s
  | .subN n => Sys2Proof.Machine.execSubN n s
  | .sbcAR r => Sys2Proof.Machine.execSbcAR r s
  | .sbcAMemHl => Sys2Proof.Machine.execSbcAMemHl s
  | .sbcAN n => Sys2Proof.Machine.execSbcAN n s
  | .andR r => Sys2Proof.Machine.execAndR r s
  | .andMemHl => Sys2Proof.Machine.execAndMemHl s
  | .andN n => Sys2Proof.Machine.execAndN n s
  | .xorR r => Sys2Proof.Machine.execXorR r s
  | .xorMemHl => Sys2Proof.Machine.execXorMemHl s
  | .xorN n => Sys2Proof.Machine.execXorN n s
  | .orR r => Sys2Proof.Machine.execOrR r s
  | .orMemHl => Sys2Proof.Machine.execOrMemHl s
  | .orN n => Sys2Proof.Machine.execOrN n s
  | .cpR r => Sys2Proof.Machine.execCpR r s
  | .cpMemHl => Sys2Proof.Machine.execCpMemHl s
  | .cpN n => Sys2Proof.Machine.execCpN n s
  | .retCc cc => Sys2Proof.Machine.execRetCc cc s
  | .popQq qq => Sys2Proof.Machine.execPopQq qq s
  | .ret => Sys2Proof.Machine.execRet s
  | .exx => Sys2Proof.Machine.execExx s
  | .jpHl => Sys2Proof.Machine.execJpHl s
  | .ldSpHl => Sys2Proof.Machine.execLdSpHl s
  | .jpCcNn cc nn => Sys2Proof.Machine.execJpCcNn cc nn s
  | .jpNn nn => Sys2Proof.Machine.execJpNn nn s
  | .outNA n => Sys2Proof.Machine.execOutNA n s
  | .inAN n => Sys2Proof.Machine.execInAN n s
  | .exSpHl => Sys2Proof.Machine.execExSpHl s
  | .exDeHl => Sys2Proof.Machine.execExDeHl s
  | .di => Sys2Proof.Machine.execDi s
  | .ei => Sys2Proof.Machine.execEi s
  | .callCcNn cc nn => Sys2Proof.Machine.execCallCcNn cc nn s
  | .pushQq qq => Sys2Proof.Machine.execPushQq qq s
  | .callNn nn => Sys2Proof.Machine.execCallNn nn s
  | .rst p => Sys2Proof.Machine.execRst p s
  | .rlcR r => Sys2Proof.Machine.execRlcR r s
  | .rlcMemHl => Sys2Proof.Machine.execRlcMemHl s
  | .rrcR r => Sys2Proof.Machine.execRrcR r s
  | .rrcMemHl => Sys2Proof.Machine.execRrcMemHl s
  | .rlR r => Sys2Proof.Machine.execRlR r s
  | .rlMemHl => Sys2Proof.Machine.execRlMemHl s
  | .rrR r => Sys2Proof.Machine.execRrR r s
  | .rrMemHl => Sys2Proof.Machine.execRrMemHl s
  | .slaR r => Sys2Proof.Machine.execSlaR r s
  | .slaMemHl => Sys2Proof.Machine.execSlaMemHl s
  | .sraR r => Sys2Proof.Machine.execSraR r s
  | .sraMemHl => Sys2Proof.Machine.execSraMemHl s
  | .sllR r => Sys2Proof.Machine.execSllR r s
  | .sllMemHl => Sys2Proof.Machine.execSllMemHl s
  | .srlR r => Sys2Proof.Machine.execSrlR r s
  | .srlMemHl => Sys2Proof.Machine.execSrlMemHl s
  | .bitBR b r => Sys2Proof.Machine.execBitBR b r s
  | .bitBMemHl b => Sys2Proof.Machine.execBitBMemHl b s
  | .resBR b r => Sys2Proof.Machine.execResBR b r s
  | .resBMemHl b => Sys2Proof.Machine.execResBMemHl b s
  | .setBR b r => Sys2Proof.Machine.execSetBR b r s
  | .setBMemHl b => Sys2Proof.Machine.execSetBMemHl b s
  | .nopEd op => Sys2Proof.Machine.execNopEd op s
  | .inRC r => Sys2Proof.Machine.execInRC r s
  | .inFC => Sys2Proof.Machine.execInFC s
  | .outCR r => Sys2Proof.Machine.execOutCR r s
  | .outC0 => Sys2Proof.Machine.execOutC0 s
  | .sbcHlSs ss => Sys2Proof.Machine.execSbcHlSs ss s
  | .adcHlSs ss => Sys2Proof.Machine.execAdcHlSs ss s
  | .ldMemNnDd dd nn => Sys2Proof.Machine.execLdMemNnDd dd nn s
  | .ldDdMemNn dd nn => Sys2Proof.Machine.execLdDdMemNn dd nn s
  | .neg y => Sys2Proof.Machine.execNeg y s
  | .retn y => Sys2Proof.Machine.execRetn y s
  | .reti => Sys2Proof.Machine.execReti s
  | .im0 y => Sys2Proof.Machine.execIm0 y s
  | .im1 y => Sys2Proof.Machine.execIm1 y s
  | .im2 y => Sys2Proof.Machine.execIm2 y s
  | .ldIA => Sys2Proof.Machine.execLdIA s
  | .ldRA => Sys2Proof.Machine.execLdRA s
  | .ldAI => Sys2Proof.Machine.execLdAI s
  | .ldAR => Sys2Proof.Machine.execLdAR s
  | .rrd => Sys2Proof.Machine.execRrd s
  | .rld => Sys2Proof.Machine.execRld s
  | .ldi => Sys2Proof.Machine.execLdi s
  | .cpi => Sys2Proof.Machine.execCpi s
  | .ini => Sys2Proof.Machine.execIni s
  | .outi => Sys2Proof.Machine.execOuti s
  | .ldd => Sys2Proof.Machine.execLdd s
  | .cpd => Sys2Proof.Machine.execCpd s
  | .ind => Sys2Proof.Machine.execInd s
  | .outd => Sys2Proof.Machine.execOutd s
  | .ldir => Sys2Proof.Machine.execLdir s
  | .cpir => Sys2Proof.Machine.execCpir s
  | .inir => Sys2Proof.Machine.execInir s
  | .otir => Sys2Proof.Machine.execOtir s
  | .lddr => Sys2Proof.Machine.execLddr s
  | .cpdr => Sys2Proof.Machine.execCpdr s
  | .indr => Sys2Proof.Machine.execIndr s
  | .otdr => Sys2Proof.Machine.execOtdr s
  | .xyPrefix xy => Sys2Proof.Machine.execXyPrefix xy s
  | .addXyPp xy pp => Sys2Proof.Machine.execAddXyPp xy pp s
  | .ldXyNn xy nn => Sys2Proof.Machine.execLdXyNn xy nn s
  | .ldMemNnXy xy nn => Sys2Proof.Machine.execLdMemNnXy xy nn s
  | .ldXyMemNn xy nn => Sys2Proof.Machine.execLdXyMemNn xy nn s
  | .incXy xy => Sys2Proof.Machine.execIncXy xy s
  | .decXy xy => Sys2Proof.Machine.execDecXy xy s
  | .incXyh xy h => Sys2Proof.Machine.execIncXyh xy h s
  | .decXyh xy h => Sys2Proof.Machine.execDecXyh xy h s
  | .ldXyhN xy h n => Sys2Proof.Machine.execLdXyhN xy h n s
  | .incXyd xy d => Sys2Proof.Machine.execIncXyd xy d s
  | .decXyd xy d => Sys2Proof.Machine.execDecXyd xy d s
  | .ldXydN xy d n => Sys2Proof.Machine.execLdXydN xy d n s
  | .ldRXyd xy r d => Sys2Proof.Machine.execLdRXyd xy r d s
  | .ldXydR xy r d => Sys2Proof.Machine.execLdXydR xy r d s
  | .ldHlXyd xy r d => Sys2Proof.Machine.execLdHlXyd xy r d s
  | .ldXydHl xy r d => Sys2Proof.Machine.execLdXydHl xy r d s
  | .ldAXyd xy d => Sys2Proof.Machine.execLdAXyd xy d s
  | .ldXydA xy d => Sys2Proof.Machine.execLdXydA xy d s
  | .ldRXyh xy r h => Sys2Proof.Machine.execLdRXyh xy r h s
  | .ldXyhR xy h r => Sys2Proof.Machine.execLdXyhR xy h r s
  | .ldXyhA xy h => Sys2Proof.Machine.execLdXyhA xy h s
  | .addAXyh xy h => Sys2Proof.Machine.execAddAXyh xy h s
  | .addAXyd xy d => Sys2Proof.Machine.execAddAXyd xy d s
  | .adcAXyh xy h => Sys2Proof.Machine.execAdcAXyh xy h s
  | .adcAXyd xy d => Sys2Proof.Machine.execAdcAXyd xy d s
  | .subXyh xy h => Sys2Proof.Machine.execSubXyh xy h s
  | .subXyd xy d => Sys2Proof.Machine.execSubXyd xy d s
  | .sbcAXyh xy h => Sys2Proof.Machine.execSbcAXyh xy h s
  | .sbcAXyd xy d => Sys2Proof.Machine.execSbcAXyd xy d s
  | .andXyh xy h => Sys2Proof.Machine.execAndXyh xy h s
  | .andXyd xy d => Sys2Proof.Machine.execAndXyd xy d s
  | .xorXyh xy h => Sys2Proof.Machine.execXorXyh xy h s
  | .xorXyd xy d => Sys2Proof.Machine.execXorXyd xy d s
  | .orXyh xy h => Sys2Proof.Machine.execOrXyh xy h s
  | .orXyd xy d => Sys2Proof.Machine.execOrXyd xy d s
  | .cpXyh xy h => Sys2Proof.Machine.execCpXyh xy h s
  | .cpXyd xy d => Sys2Proof.Machine.execCpXyd xy d s
  | .popXy xy => Sys2Proof.Machine.execPopXy xy s
  | .exSpXy xy => Sys2Proof.Machine.execExSpXy xy s
  | .pushXy xy => Sys2Proof.Machine.execPushXy xy s
  | .jpXy xy => Sys2Proof.Machine.execJpXy xy s
  | .ldSpXy xy => Sys2Proof.Machine.execLdSpXy xy s
  | .rlcXyd xy d => Sys2Proof.Machine.execRlcXyd xy d s
  | .ldRRlcXyd xy d r => Sys2Proof.Machine.execLdRRlcXyd xy d r s
  | .rrcXyd xy d => Sys2Proof.Machine.execRrcXyd xy d s
  | .ldRRrcXyd xy d r => Sys2Proof.Machine.execLdRRrcXyd xy d r s
  | .rlXyd xy d => Sys2Proof.Machine.execRlXyd xy d s
  | .ldRRlXyd xy d r => Sys2Proof.Machine.execLdRRlXyd xy d r s
  | .rrXyd xy d => Sys2Proof.Machine.execRrXyd xy d s
  | .ldRRrXyd xy d r => Sys2Proof.Machine.execLdRRrXyd xy d r s
  | .slaXyd xy d => Sys2Proof.Machine.execSlaXyd xy d s
  | .ldRSlaXyd xy d r => Sys2Proof.Machine.execLdRSlaXyd xy d r s
  | .sraXyd xy d => Sys2Proof.Machine.execSraXyd xy d s
  | .ldRSraXyd xy d r => Sys2Proof.Machine.execLdRSraXyd xy d r s
  | .sllXyd xy d => Sys2Proof.Machine.execSllXyd xy d s
  | .ldRSllXyd xy d r => Sys2Proof.Machine.execLdRSllXyd xy d r s
  | .srlXyd xy d => Sys2Proof.Machine.execSrlXyd xy d s
  | .ldRSrlXyd xy d r => Sys2Proof.Machine.execLdRSrlXyd xy d r s
  | .bitBXyd xy d b z => Sys2Proof.Machine.execBitBXyd xy d b z s
  | .resBXyd xy d b => Sys2Proof.Machine.execResBXyd xy d b s
  | .ldRResBXyd xy d b r => Sys2Proof.Machine.execLdRResBXyd xy d b r s
  | .setBXyd xy d b => Sys2Proof.Machine.execSetBXyd xy d b s
  | .ldRSetBXyd xy d b r => Sys2Proof.Machine.execLdRSetBXyd xy d b r s

end Sys2Proof.Machine
end

