-- ==== Sys2Proof/WellFormed.lean ====
section
/-! DEFINITION. Which terms of Instr stand for words of the instruction set: the limits the opcode table puts on
single fields (spec/opcode_table.json, `fields`). Every other term is well formed. -/

namespace Sys2Proof

/-- The conditions JR may name (R78, R214). -/
def Cond.isJr : Cond → Bool
  | .nz | .z | .nc | .c => true
  | .po | .pe | .p | .m => false

/-- The registers of the rows with mask E7, FC and F4: B, C, D, E (R104). -/
def R8.isBcde : R8 → Bool
  | .b | .c | .d | .e => true
  | .h | .l | .a => false

/-- The registers of the rows with mask F7 and FE: the real H and L (R88, R104). -/
def R8.isHl : R8 → Bool
  | .h | .l => true
  | .b | .c | .d | .e | .a => false

/-- The ED slots that run NOP(ED), listed as R84 lists them. -/
def isNopEdSlot (op : Byte) : Bool :=
  op.toNat ≤ 0x3F || op == 0x77 || op == 0x7F || (0x80 ≤ op.toNat && op.toNat ≤ 0x9F)
    || (0xA4 ≤ op.toNat && op.toNat ≤ 0xA7) || (0xAC ≤ op.toNat && op.toNat ≤ 0xAF)
    || (0xB4 ≤ op.toNat && op.toNat ≤ 0xB7) || (0xBC ≤ op.toNat && op.toNat ≤ 0xBF) || 0xC0 ≤ op.toNat

/-- The instruction stands for words of the opcode table. -/
def Instr.wf : Instr → Bool
  | .jrCc cc _ => cc.isJr
  | .ldRXyd _ r _ | .ldXydR _ r _ => r.isBcde
  | .ldHlXyd _ r _ | .ldXydHl _ r _ => r.isHl
  | .ldXyhR _ _ r => r.isBcde
  | .nopEd op => isNopEdSlot op
  | .retn y => y != 1
  | .im0 y => y == 0 || y == 1 || y == 4 || y == 5
  | .im1 y => y == 2 || y == 6
  | .im2 y => y == 3 || y == 7
   | .nop | .exAfAf | .djnz _ | .jr _ | .ldDdNn _ _ | .addHlSs _ | .ldMemRrA _ | .ldAMemRr _ | .ldMemNnHl _
   | .ldHlMemNn _ | .ldMemNnA _ | .ldAMemNn _ | .incSs _ | .decSs _ | .incR _ | .incMemHl | .decR _
   | .decMemHl | .ldRN _ _ | .ldMemHlN _ | .rlca | .rrca | .rla | .rra | .daa | .cpl | .scf | .ccf | .ldRR _ _
   | .ldRMemHl _ | .ldMemHlR _ | .halt | .addAR _ | .addAMemHl | .addAN _ | .adcAR _ | .adcAMemHl | .adcAN _
   | .subR _ | .subMemHl | .subN _ | .sbcAR _ | .sbcAMemHl | .sbcAN _ | .andR _ | .andMemHl | .andN _
   | .xorR _ | .xorMemHl | .xorN _ | .orR _ | .orMemHl | .orN _ | .cpR _ | .cpMemHl | .cpN _ | .retCc _
   | .popQq _ | .ret | .exx | .jpHl | .ldSpHl | .jpCcNn _ _ | .jpNn _ | .outNA _ | .inAN _ | .exSpHl | .exDeHl
   | .di | .ei | .callCcNn _ _ | .pushQq _ | .callNn _ | .rst _ | .rlcR _ | .rlcMemHl | .rrcR _ | .rrcMemHl
   | .rlR _ | .rlMemHl | .rrR _ | .rrMemHl | .slaR _ | .slaMemHl | .sraR _ | .sraMemHl | .sllR _ | .sllMemHl
   | .srlR _ | .srlMemHl | .bitBR _ _ | .bitBMemHl _ | .resBR _ _ | .resBMemHl _ | .setBR _ _ | .setBMemHl _
   | .inRC _ | .inFC | .outCR _ | .outC0 | .sbcHlSs _ | .adcHlSs _ | .ldMemNnDd _ _ | .ldDdMemNn _ _ | .neg _
   | .reti | .ldIA | .ldRA | .ldAI | .ldAR | .rrd | .rld | .ldi | .cpi | .ini | .outi | .ldd | .cpd | .ind
   | .outd | .ldir | .cpir | .inir | .otir | .lddr | .cpdr | .indr | .otdr | .xyPrefix _ | .addXyPp _ _
   | .ldXyNn _ _ | .ldMemNnXy _ _ | .ldXyMemNn _ _ | .incXy _ | .decXy _ | .incXyh _ _ | .decXyh _ _
   | .ldXyhN _ _ _ | .incXyd _ _ | .decXyd _ _ | .ldXydN _ _ _ | .ldAXyd _ _ | .ldXydA _ _ | .ldRXyh _ _ _
   | .ldXyhA _ _ | .addAXyh _ _ | .addAXyd _ _ | .adcAXyh _ _ | .adcAXyd _ _ | .subXyh _ _ | .subXyd _ _
   | .sbcAXyh _ _ | .sbcAXyd _ _ | .andXyh _ _ | .andXyd _ _ | .xorXyh _ _ | .xorXyd _ _ | .orXyh _ _
   | .orXyd _ _ | .cpXyh _ _ | .cpXyd _ _ | .popXy _ | .exSpXy _ | .pushXy _ | .jpXy _ | .ldSpXy _
   | .rlcXyd _ _ | .ldRRlcXyd _ _ _ | .rrcXyd _ _ | .ldRRrcXyd _ _ _ | .rlXyd _ _ | .ldRRlXyd _ _ _
   | .rrXyd _ _ | .ldRRrXyd _ _ _ | .slaXyd _ _ | .ldRSlaXyd _ _ _ | .sraXyd _ _ | .ldRSraXyd _ _ _
   | .sllXyd _ _ | .ldRSllXyd _ _ _ | .srlXyd _ _ | .ldRSrlXyd _ _ _ | .bitBXyd _ _ _ _ | .resBXyd _ _ _
   | .ldRResBXyd _ _ _ _ | .setBXyd _ _ _ | .ldRSetBXyd _ _ _ _
    => true

end Sys2Proof
end

