-- ==== Sys2Proof/Decode.lean ====
section
/-! DEFINITION. The decoder: the prefix dispatch walk of spec 30_encoding (R70 to R99) as a total function on a list of
bytes, and the encoder, written from the same tables. A rejection is named. -/

namespace Sys2Proof

/-- Why the decoder gives no instruction. -/
inductive DecodeReject where
  /-- The bytes end inside the instruction. -/
  | truncated
  /-- The table has no entry at this slot (R301). R100: no slot of this table is empty. -/
  | unpopulated (region : TableRegion) (slot : Byte)
  deriving DecidableEq, Repr

/-- What a slot of the dispatch table holds: an instruction with the immediates it still needs, in the order they are
fetched (R93, R94), a byte that continues the walk (R73), nothing for a DD/FD byte that falls back (R89). -/
inductive Slot where
  | leaf (i : Instr)
  | imm8 (f : Byte → Instr)
  | imm16 (f : Word → Instr)
  | imm8x2 (f : Byte → Byte → Instr)
  | toCb
  | toEd
  | toXy (xy : XY)
  | fallback
  | hole

/-! ### Operand fields (R75 to R82) -/

/-- Field `r8`; value 6 is memory (R75). -/
def r8Field (k : BitVec 3) : Option R8 :=
  match k.toNat with
  | 0 => some .b
  | 1 => some .c
  | 2 => some .d
  | 3 => some .e
  | 4 => some .h
  | 5 => some .l
  | 6 => none
  | _ => some .a

/-- Field `rp` (R76). -/
def rpField (p : BitVec 2) : RP :=
  match p.toNat with
  | 0 => .bc
  | 1 => .de
  | 2 => .hl
  | _ => .sp

/-- Field `rp2` (R77). -/
def rp2Field (p : BitVec 2) : RP2 :=
  match p.toNat with
  | 0 => .bc
  | 1 => .de
  | 2 => .hl
  | _ => .af

/-- Field `pp` (R87). -/
def ppField (p : BitVec 2) : PP :=
  match p.toNat with
  | 0 => .bc
  | 1 => .de
  | 2 => .xy
  | _ => .sp

/-- Field `cc` (R78). -/
def condField (k : BitVec 3) : Cond :=
  match k.toNat with
  | 0 => .nz
  | 1 => .z
  | 2 => .nc
  | 3 => .c
  | 4 => .po
  | 5 => .pe
  | 6 => .p
  | _ => .m

/-- The half that register field value 4 (XYH) or 5 (XYL) names under DD/FD (R87). -/
def halfField (k : BitVec 3) : Half := if k.getLsbD 0 then .lo else .hi

/-- The destination of `LD r,XYh` (R87). -/
def xregField (k : BitVec 3) : XReg :=
  match k.toNat with
  | 0 => .b
  | 1 => .c
  | 2 => .d
  | 3 => .e
  | 4 => .xh
  | 5 => .xl
  | _ => .a

/-- The ALU field on a register (R79). -/
def aluRField (y : BitVec 3) (r : R8) : Instr :=
  match y.toNat with
  | 0 => .addAR r
  | 1 => .adcAR r
  | 2 => .subR r
  | 3 => .sbcAR r
  | 4 => .andR r
  | 5 => .xorR r
  | 6 => .orR r
  | _ => .cpR r

/-- The ALU field on the byte at HL (R79). -/
def aluMemHlField (y : BitVec 3) : Instr :=
  match y.toNat with
  | 0 => .addAMemHl
  | 1 => .adcAMemHl
  | 2 => .subMemHl
  | 3 => .sbcAMemHl
  | 4 => .andMemHl
  | 5 => .xorMemHl
  | 6 => .orMemHl
  | _ => .cpMemHl

/-- The ALU field on an immediate (R79). -/
def aluNField (y : BitVec 3) (n : Byte) : Instr :=
  match y.toNat with
  | 0 => .addAN n
  | 1 => .adcAN n
  | 2 => .subN n
  | 3 => .sbcAN n
  | 4 => .andN n
  | 5 => .xorN n
  | 6 => .orN n
  | _ => .cpN n

/-- The ALU field on a half of the index register (R79). -/
def aluXyhField (y : BitVec 3) (xy : XY) (h : Half) : Instr :=
  match y.toNat with
  | 0 => .addAXyh xy h
  | 1 => .adcAXyh xy h
  | 2 => .subXyh xy h
  | 3 => .sbcAXyh xy h
  | 4 => .andXyh xy h
  | 5 => .xorXyh xy h
  | 6 => .orXyh xy h
  | _ => .cpXyh xy h

/-- The ALU field on the byte at XY+d (R79). -/
def aluXydField (y : BitVec 3) (xy : XY) (d : Byte) : Instr :=
  match y.toNat with
  | 0 => .addAXyd xy d
  | 1 => .adcAXyd xy d
  | 2 => .subXyd xy d
  | 3 => .sbcAXyd xy d
  | 4 => .andXyd xy d
  | 5 => .xorXyd xy d
  | 6 => .orXyd xy d
  | _ => .cpXyd xy d

/-- The shift field on a register (R80). -/
def rotRField (y : BitVec 3) (r : R8) : Instr :=
  match y.toNat with
  | 0 => .rlcR r
  | 1 => .rrcR r
  | 2 => .rlR r
  | 3 => .rrR r
  | 4 => .slaR r
  | 5 => .sraR r
  | 6 => .sllR r
  | _ => .srlR r

/-- The shift field on the byte at HL (R80). -/
def rotMemHlField (y : BitVec 3) : Instr :=
  match y.toNat with
  | 0 => .rlcMemHl
  | 1 => .rrcMemHl
  | 2 => .rlMemHl
  | 3 => .rrMemHl
  | 4 => .slaMemHl
  | 5 => .sraMemHl
  | 6 => .sllMemHl
  | _ => .srlMemHl

/-- The shift field on the byte at XY+d (R80). -/
def rotXydField (y : BitVec 3) (xy : XY) (d : Byte) : Instr :=
  match y.toNat with
  | 0 => .rlcXyd xy d
  | 1 => .rrcXyd xy d
  | 2 => .rlXyd xy d
  | 3 => .rrXyd xy d
  | 4 => .slaXyd xy d
  | 5 => .sraXyd xy d
  | 6 => .sllXyd xy d
  | _ => .srlXyd xy d

/-- The shift field on the byte at XY+d, copied into a register (R92) (R80). -/
def ldRRotXydField (y : BitVec 3) (xy : XY) (d : Byte) (r : R8) : Instr :=
  match y.toNat with
  | 0 => .ldRRlcXyd xy d r
  | 1 => .ldRRrcXyd xy d r
  | 2 => .ldRRlXyd xy d r
  | 3 => .ldRRrXyd xy d r
  | 4 => .ldRSlaXyd xy d r
  | 5 => .ldRSraXyd xy d r
  | 6 => .ldRSllXyd xy d r
  | _ => .ldRSrlXyd xy d r

/-! ### The six regions (R95 to R99) -/

/-- Plain slots 0x00 to 0x3F (R95, the first four rows). -/
def plainSlot0 (op : Byte) : Slot :=
  let y := fieldY op
  match (fieldZ op).toNat with
  | 0 =>
    match y.toNat with
    | 0 => .leaf .nop
    | 1 => .leaf .exAfAf
    | 2 => .imm8 .djnz
    | 3 => .imm8 .jr
    | _ => .imm8 (.jrCc (condField (y - 4)))
  | 1 => if fieldQ op then .leaf (.addHlSs (rpField (fieldP op))) else .imm16 (.ldDdNn (rpField (fieldP op)))
  | 2 =>
    match y.toNat with
    | 0 => .leaf (.ldMemRrA .bc)
    | 1 => .leaf (.ldAMemRr .bc)
    | 2 => .leaf (.ldMemRrA .de)
    | 3 => .leaf (.ldAMemRr .de)
    | 4 => .imm16 .ldMemNnHl
    | 5 => .imm16 .ldHlMemNn
    | 6 => .imm16 .ldMemNnA
    | _ => .imm16 .ldAMemNn
  | 3 => if fieldQ op then .leaf (.decSs (rpField (fieldP op))) else .leaf (.incSs (rpField (fieldP op)))
  | 4 =>
    match r8Field y with
    | some r => .leaf (.incR r)
    | none => .leaf .incMemHl
  | 5 =>
    match r8Field y with
    | some r => .leaf (.decR r)
    | none => .leaf .decMemHl
  | 6 =>
    match r8Field y with
    | some r => .imm8 (.ldRN r)
    | none => .imm8 .ldMemHlN
  | _ =>
    match y.toNat with
    | 0 => .leaf .rlca
    | 1 => .leaf .rrca
    | 2 => .leaf .rla
    | 3 => .leaf .rra
    | 4 => .leaf .daa
    | 5 => .leaf .cpl
    | 6 => .leaf .scf
    | _ => .leaf .ccf

/-- Plain slots 0x40 to 0x7F: the 8-bit loads, with HALT in the place of `LD (HL),(HL)` (R95, R114). -/
def plainSlot1 (op : Byte) : Slot :=
  match r8Field (fieldY op), r8Field (fieldZ op) with
  | some r, some q => .leaf (.ldRR r q)
  | some r, none => .leaf (.ldRMemHl r)
  | none, some q => .leaf (.ldMemHlR q)
  | none, none => .leaf .halt

/-- Plain slots 0xC0 to 0xFF (R95, the last four rows). -/
def plainSlot3 (op : Byte) : Slot :=
  let y := fieldY op
  match (fieldZ op).toNat with
  | 0 => .leaf (.retCc (condField y))
  | 1 =>
    if fieldQ op then
      match (fieldP op).toNat with
      | 0 => .leaf .ret
      | 1 => .leaf .exx
      | 2 => .leaf .jpHl
      | _ => .leaf .ldSpHl
    else .leaf (.popQq (rp2Field (fieldP op)))
  | 2 => .imm16 (.jpCcNn (condField y))
  | 3 =>
    match y.toNat with
    | 0 => .imm16 .jpNn
    | 1 => .toCb
    | 2 => .imm8 .outNA
    | 3 => .imm8 .inAN
    | 4 => .leaf .exSpHl
    | 5 => .leaf .exDeHl
    | 6 => .leaf .di
    | _ => .leaf .ei
  | 4 => .imm16 (.callCcNn (condField y))
  | 5 =>
    if fieldQ op then
      match (fieldP op).toNat with
      | 0 => .imm16 .callNn
      | 1 => .toXy .ix
      | 2 => .toEd
      | _ => .toXy .iy
    else .leaf (.pushQq (rp2Field (fieldP op)))
  | 6 => .imm8 (aluNField y)
  | _ => .leaf (.rst y)

/-- The plain region (R95). -/
def plainSlot (op : Byte) : Slot :=
  match (fieldX op).toNat with
  | 0 => plainSlot0 op
  | 1 => plainSlot1 op
  | 2 =>
    match r8Field (fieldZ op) with
    | some r => .leaf (aluRField (fieldY op) r)
    | none => .leaf (aluMemHlField (fieldY op))
  | _ => plainSlot3 op

/-- The CB region (R96). -/
def cbSlot (op : Byte) : Slot :=
  let y := fieldY op
  match (fieldX op).toNat, r8Field (fieldZ op) with
  | 0, some r => .leaf (rotRField y r)
  | 0, none => .leaf (rotMemHlField y)
  | 1, some r => .leaf (.bitBR y r)
  | 1, none => .leaf (.bitBMemHl y)
  | 2, some r => .leaf (.resBR y r)
  | 2, none => .leaf (.resBMemHl y)
  | _, some r => .leaf (.setBR y r)
  | _, none => .leaf (.setBMemHl y)

/-- ED slots 0x40 to 0x7F (R85, R97). -/
def edSlot1 (op : Byte) : Slot :=
  let y := fieldY op
  match (fieldZ op).toNat with
  | 0 =>
    match r8Field y with
    | some r => .leaf (.inRC r)
    | none => .leaf .inFC
  | 1 =>
    match r8Field y with
    | some r => .leaf (.outCR r)
    | none => .leaf .outC0
  | 2 => if fieldQ op then .leaf (.adcHlSs (rpField (fieldP op))) else .leaf (.sbcHlSs (rpField (fieldP op)))
  | 3 => if fieldQ op then .imm16 (.ldDdMemNn (rpField (fieldP op))) else .imm16 (.ldMemNnDd (rpField (fieldP op)))
  | 4 => .leaf (.neg y)
  | 5 => if y == 1 then .leaf .reti else .leaf (.retn y)
  | 6 =>
    match y.toNat with
    | 0 | 1 | 4 | 5 => .leaf (.im0 y)
    | 2 | 6 => .leaf (.im1 y)
    | _ => .leaf (.im2 y)
  | _ =>
    match y.toNat with
    | 0 => .leaf .ldIA
    | 1 => .leaf .ldRA
    | 2 => .leaf .ldAI
    | 3 => .leaf .ldAR
    | 4 => .leaf .rrd
    | 5 => .leaf .rld
    | _ => .leaf (.nopEd op)

/-- ED slots 0x80 to 0xBF: the block instructions (R97). -/
def edSlot2 (op : Byte) : Slot :=
  match (fieldY op).toNat, (fieldZ op).toNat with
  | 4, 0 => .leaf .ldi
  | 4, 1 => .leaf .cpi
  | 4, 2 => .leaf .ini
  | 4, 3 => .leaf .outi
  | 5, 0 => .leaf .ldd
  | 5, 1 => .leaf .cpd
  | 5, 2 => .leaf .ind
  | 5, 3 => .leaf .outd
  | 6, 0 => .leaf .ldir
  | 6, 1 => .leaf .cpir
  | 6, 2 => .leaf .inir
  | 6, 3 => .leaf .otir
  | 7, 0 => .leaf .lddr
  | 7, 1 => .leaf .cpdr
  | 7, 2 => .leaf .indr
  | 7, 3 => .leaf .otdr
  | _, _ => .leaf (.nopEd op)

/-- The ED region; a slot the map does not name runs NOP(ED) (R84, R97). -/
def edSlot (op : Byte) : Slot :=
  match (fieldX op).toNat with
  | 1 => edSlot1 op
  | 2 => edSlot2 op
  | _ => .leaf (.nopEd op)

/-- DD/FD slots 0x00 to 0x3F (R98). -/
def xySlot0 (xy : XY) (op : Byte) : Slot :=
  match (fieldZ op).toNat, (fieldY op).toNat with
  | 1, 4 => .imm16 (.ldXyNn xy)
  | 1, 1 | 1, 3 | 1, 5 | 1, 7 => .leaf (.addXyPp xy (ppField (fieldP op)))
  | 2, 4 => .imm16 (.ldMemNnXy xy)
  | 2, 5 => .imm16 (.ldXyMemNn xy)
  | 3, 4 => .leaf (.incXy xy)
  | 3, 5 => .leaf (.decXy xy)
  | 4, 4 | 4, 5 => .leaf (.incXyh xy (halfField (fieldY op)))
  | 4, 6 => .imm8 (.incXyd xy)
  | 5, 4 | 5, 5 => .leaf (.decXyh xy (halfField (fieldY op)))
  | 5, 6 => .imm8 (.decXyd xy)
  | 6, 4 | 6, 5 => .imm8 (.ldXyhN xy (halfField (fieldY op)))
  | 6, 6 => .imm8x2 (.ldXydN xy)
  | _, _ => .fallback

/-- `LD r,(XY+d)`: the table's three rows (R98, R104). -/
def ldRXydField (xy : XY) (r : R8) (d : Byte) : Instr :=
  match r with
  | .b | .c | .d | .e => .ldRXyd xy r d
  | .h | .l => .ldHlXyd xy r d
  | .a => .ldAXyd xy d

/-- `LD (XY+d),r`: the table's three rows (R98, R104). -/
def ldXydRField (xy : XY) (r : R8) (d : Byte) : Instr :=
  match r with
  | .b | .c | .d | .e => .ldXydR xy r d
  | .h | .l => .ldXydHl xy r d
  | .a => .ldXydA xy d

/-- DD/FD slots 0x40 to 0x7F: the loads that name the index register (R98). -/
def xySlot1 (xy : XY) (op : Byte) : Slot :=
  let y := fieldY op
  let z := fieldZ op
  match r8Field y, r8Field z with
  | none, none => .fallback
  | some r, none => .imm8 (ldRXydField xy r)
  | none, some q => .imm8 (ldXydRField xy q)
  | some _, some .h | some _, some .l => .leaf (.ldRXyh xy (xregField y) (halfField z))
  | some .h, some .a | some .l, some .a => .leaf (.ldXyhA xy (halfField y))
  | some .h, some q | some .l, some q => .leaf (.ldXyhR xy (halfField y) q)
  | some _, some _ => .fallback

/-- DD/FD slots 0xC0 to 0xFF, but for 0xCB (R98). -/
def xySlot3 (xy : XY) (op : Byte) : Slot :=
  match (fieldY op).toNat, (fieldZ op).toNat with
  | 4, 1 => .leaf (.popXy xy)
  | 4, 3 => .leaf (.exSpXy xy)
  | 4, 5 => .leaf (.pushXy xy)
  | 5, 1 => .leaf (.jpXy xy)
  | 7, 1 => .leaf (.ldSpXy xy)
  | _, _ => .fallback

/-- The DD and FD regions (R86, R98). -/
def xySlot (xy : XY) (op : Byte) : Slot :=
  match (fieldX op).toNat with
  | 0 => xySlot0 xy op
  | 1 => xySlot1 xy op
  | 2 =>
    match r8Field (fieldZ op) with
    | none => .imm8 (aluXydField (fieldY op) xy)
    | some .h | some .l => .leaf (aluXyhField (fieldY op) xy (halfField (fieldZ op)))
    | some _ => .fallback
  | _ => xySlot3 xy op

/-- The DD/FD+CB region, on the displacement and the fourth byte (R92, R99). -/
def indexedSlot (xy : XY) (d op : Byte) : Slot :=
  let y := fieldY op
  match (fieldX op).toNat, r8Field (fieldZ op) with
  | 0, some r => .leaf (ldRRotXydField y xy d r)
  | 0, none => .leaf (rotXydField y xy d)
  | 1, _ => .leaf (.bitBXyd xy d y (fieldZ op))
  | 2, some r => .leaf (.ldRResBXyd xy d y r)
  | 2, none => .leaf (.resBXyd xy d y)
  | _, some r => .leaf (.ldRSetBXyd xy d y r)
  | _, none => .leaf (.setBXyd xy d y)

/-! ### The walk (R73, R74, R83, R86, R91) -/

/-- Ends the walk at a slot: its immediates are the next bytes, in address order (R93). -/
def Slot.finish (region : TableRegion) (op : Byte) : Slot → List Byte → Except DecodeReject (Instr × List Byte)
  | .leaf i, bs => .ok (i, bs)
  | .imm8 f, n :: bs => .ok (f n, bs)
  | .imm16 f, lo :: hi :: bs => .ok (f (mkWord hi lo), bs)
  | .imm8x2 f, d :: n :: bs => .ok (f d n, bs)
  | .imm8 _, [] | .imm16 _, [] | .imm16 _, [_] | .imm8x2 _, [] | .imm8x2 _, [_] => .error .truncated
  | .toCb, _ | .toEd, _ | .toXy _, _ | .fallback, _ | .hole, _ => .error (.unpopulated region op)

/-- The region a DD or FD byte selects. -/
def XY.region : XY → TableRegion
  | .ix => .dd
  | .iy => .fd

/-- State `AfterIndexedCB` (R91): the displacement comes before the sub-opcode. -/
def decodeIndexed (xy : XY) : List Byte → Except DecodeReject (Instr × List Byte)
  | d :: op :: bs => (indexedSlot xy d op).finish .indexedCb op bs
  | _ => .error .truncated

/-- States `AfterDD` and `AfterFD` (R86). A byte without a handler falls back: the DD or FD alone is the one-byte row
`DD/FD prefix (fallback)` and the walk goes on at that byte (R89, R90). -/
def decodeXy (xy : XY) : List Byte → Except DecodeReject (Instr × List Byte)
  | [] => .error .truncated
  | op :: bs =>
    if op = 0xCB then decodeIndexed xy bs
    else
      match xySlot xy op with
      | .fallback => .ok (.xyPrefix xy, op :: bs)
      | slot => slot.finish xy.region op bs

/-- State `Base` (R73): the instruction at the head of the bytes and the bytes after it, or a rejection by name. -/
def decode : List Byte → Except DecodeReject (Instr × List Byte)
  | [] => .error .truncated
  | op :: bs =>
    match plainSlot op with
    | .toCb =>
      match bs with
      | [] => .error .truncated
      | op2 :: rest => (cbSlot op2).finish .cb op2 rest
    | .toEd =>
      match bs with
      | [] => .error .truncated
      | op2 :: rest => (edSlot op2).finish .ed op2 rest
    | .toXy xy => decodeXy xy bs
    | slot => slot.finish .plain op bs

/-- The instruction the decoder reads from the table's numbering of an instruction's bits: bit 0 is the least
significant bit of the first byte, and every bit above `nbits` is 0. -/
def decodeTableWord (nbits w : Nat) : Option Instr :=
  match decode (bytesOf 4 (w % 2 ^ nbits)) with
  | .ok (i, _) => some i
  | .error _ => none

/-! ### The encoder -/

/-- The value of field `r8` (R75). -/
def R8.code : R8 → BitVec 3
  | .b => 0
  | .c => 1
  | .d => 2
  | .e => 3
  | .h => 4
  | .l => 5
  | .a => 7

/-- The value of field `rp` (R76). -/
def RP.code : RP → BitVec 2
  | .bc => 0
  | .de => 1
  | .hl => 2
  | .sp => 3

/-- The value of field `rp2` (R77). -/
def RP2.code : RP2 → BitVec 2
  | .bc => 0
  | .de => 1
  | .hl => 2
  | .af => 3

/-- The value of field `pp` (R87). -/
def PP.code : PP → BitVec 2
  | .bc => 0
  | .de => 1
  | .xy => 2
  | .sp => 3

/-- The value of field `rr`: bit 4 of the opcode. -/
def RR.code : RR → BitVec 2
  | .bc => 0
  | .de => 1

/-- The value of field `cc` (R78). -/
def Cond.code : Cond → BitVec 3
  | .nz => 0
  | .z => 1
  | .nc => 2
  | .c => 3
  | .po => 4
  | .pe => 5
  | .p => 6
  | .m => 7

/-- The register field value of XYH and XYL (R87). -/
def Half.code : Half → BitVec 3
  | .hi => 4
  | .lo => 5

/-- The register field value of the destination of `LD r,XYh` (R87). -/
def XReg.code : XReg → BitVec 3
  | .b => 0
  | .c => 1
  | .d => 2
  | .e => 3
  | .xh => 4
  | .xl => 5
  | .a => 7

/-- The byte that selects IX or IY (R86). -/
def XY.byte : XY → Byte
  | .ix => 0xDD
  | .iy => 0xFD

/-- The two bytes of an immediate `nn`, low byte first (R93). -/
def nnBytes (nn : Word) : List Byte := [loByte nn, hiByte nn]

/-- The bytes of an instruction, from the layouts of R94 and the maps of R95 to R99. -/
def encode : Instr → List Byte
  | .nop => [0x00]
  | .exAfAf => [0x08]
  | .djnz e => [0x10, e]
  | .jr e => [0x18, e]
  | .jrCc cc e => [opcodeXyz 0 (cc.code + 4) 0, e]
  | .ldDdNn dd nn => opcodeXpqz 0 dd.code false 1 :: nnBytes nn
  | .addHlSs ss => [opcodeXpqz 0 ss.code true 1]
  | .ldMemRrA rr => [opcodeXpqz 0 rr.code false 2]
  | .ldAMemRr rr => [opcodeXpqz 0 rr.code true 2]
  | .ldMemNnHl nn => 0x22 :: nnBytes nn
  | .ldHlMemNn nn => 0x2A :: nnBytes nn
  | .ldMemNnA nn => 0x32 :: nnBytes nn
  | .ldAMemNn nn => 0x3A :: nnBytes nn
  | .incSs ss => [opcodeXpqz 0 ss.code false 3]
  | .decSs ss => [opcodeXpqz 0 ss.code true 3]
  | .incR r => [opcodeXyz 0 r.code 4]
  | .incMemHl => [0x34]
  | .decR r => [opcodeXyz 0 r.code 5]
  | .decMemHl => [0x35]
  | .ldRN r n => [opcodeXyz 0 r.code 6, n]
  | .ldMemHlN n => [0x36, n]
  | .rlca => [0x07]
  | .rrca => [0x0F]
  | .rla => [0x17]
  | .rra => [0x1F]
  | .daa => [0x27]
  | .cpl => [0x2F]
  | .scf => [0x37]
  | .ccf => [0x3F]
  | .ldRR r q => [opcodeXyz 1 r.code q.code]
  | .ldRMemHl r => [opcodeXyz 1 r.code 6]
  | .ldMemHlR r => [opcodeXyz 1 6 r.code]
  | .halt => [0x76]
  | .addAR r => [opcodeXyz 2 0 r.code]
  | .addAMemHl => [opcodeXyz 2 0 6]
  | .addAN n => [opcodeXyz 3 0 6, n]
  | .adcAR r => [opcodeXyz 2 1 r.code]
  | .adcAMemHl => [opcodeXyz 2 1 6]
  | .adcAN n => [opcodeXyz 3 1 6, n]
  | .subR r => [opcodeXyz 2 2 r.code]
  | .subMemHl => [opcodeXyz 2 2 6]
  | .subN n => [opcodeXyz 3 2 6, n]
  | .sbcAR r => [opcodeXyz 2 3 r.code]
  | .sbcAMemHl => [opcodeXyz 2 3 6]
  | .sbcAN n => [opcodeXyz 3 3 6, n]
  | .andR r => [opcodeXyz 2 4 r.code]
  | .andMemHl => [opcodeXyz 2 4 6]
  | .andN n => [opcodeXyz 3 4 6, n]
  | .xorR r => [opcodeXyz 2 5 r.code]
  | .xorMemHl => [opcodeXyz 2 5 6]
  | .xorN n => [opcodeXyz 3 5 6, n]
  | .orR r => [opcodeXyz 2 6 r.code]
  | .orMemHl => [opcodeXyz 2 6 6]
  | .orN n => [opcodeXyz 3 6 6, n]
  | .cpR r => [opcodeXyz 2 7 r.code]
  | .cpMemHl => [opcodeXyz 2 7 6]
  | .cpN n => [opcodeXyz 3 7 6, n]
  | .retCc cc => [opcodeXyz 3 cc.code 0]
  | .popQq qq => [opcodeXpqz 3 qq.code false 1]
  | .ret => [0xC9]
  | .exx => [0xD9]
  | .jpHl => [0xE9]
  | .ldSpHl => [0xF9]
  | .jpCcNn cc nn => opcodeXyz 3 cc.code 2 :: nnBytes nn
  | .jpNn nn => 0xC3 :: nnBytes nn
  | .outNA n => [0xD3, n]
  | .inAN n => [0xDB, n]
  | .exSpHl => [0xE3]
  | .exDeHl => [0xEB]
  | .di => [0xF3]
  | .ei => [0xFB]
  | .callCcNn cc nn => opcodeXyz 3 cc.code 4 :: nnBytes nn
  | .pushQq qq => [opcodeXpqz 3 qq.code false 5]
  | .callNn nn => 0xCD :: nnBytes nn
  | .rst p => [opcodeXyz 3 p 7]
  | .rlcR r => [0xCB, opcodeXyz 0 0 r.code]
  | .rlcMemHl => [0xCB, opcodeXyz 0 0 6]
  | .rrcR r => [0xCB, opcodeXyz 0 1 r.code]
  | .rrcMemHl => [0xCB, opcodeXyz 0 1 6]
  | .rlR r => [0xCB, opcodeXyz 0 2 r.code]
  | .rlMemHl => [0xCB, opcodeXyz 0 2 6]
  | .rrR r => [0xCB, opcodeXyz 0 3 r.code]
  | .rrMemHl => [0xCB, opcodeXyz 0 3 6]
  | .slaR r => [0xCB, opcodeXyz 0 4 r.code]
  | .slaMemHl => [0xCB, opcodeXyz 0 4 6]
  | .sraR r => [0xCB, opcodeXyz 0 5 r.code]
  | .sraMemHl => [0xCB, opcodeXyz 0 5 6]
  | .sllR r => [0xCB, opcodeXyz 0 6 r.code]
  | .sllMemHl => [0xCB, opcodeXyz 0 6 6]
  | .srlR r => [0xCB, opcodeXyz 0 7 r.code]
  | .srlMemHl => [0xCB, opcodeXyz 0 7 6]
  | .bitBR b r => [0xCB, opcodeXyz 1 b r.code]
  | .bitBMemHl b => [0xCB, opcodeXyz 1 b 6]
  | .resBR b r => [0xCB, opcodeXyz 2 b r.code]
  | .resBMemHl b => [0xCB, opcodeXyz 2 b 6]
  | .setBR b r => [0xCB, opcodeXyz 3 b r.code]
  | .setBMemHl b => [0xCB, opcodeXyz 3 b 6]
  | .nopEd op => [0xED, op]
  | .inRC r => [0xED, opcodeXyz 1 r.code 0]
  | .inFC => [0xED, 0x70]
  | .outCR r => [0xED, opcodeXyz 1 r.code 1]
  | .outC0 => [0xED, 0x71]
  | .sbcHlSs ss => [0xED, opcodeXpqz 1 ss.code false 2]
  | .adcHlSs ss => [0xED, opcodeXpqz 1 ss.code true 2]
  | .ldMemNnDd dd nn => 0xED :: opcodeXpqz 1 dd.code false 3 :: nnBytes nn
  | .ldDdMemNn dd nn => 0xED :: opcodeXpqz 1 dd.code true 3 :: nnBytes nn
  | .neg y => [0xED, opcodeXyz 1 y 4]
  | .retn y => [0xED, opcodeXyz 1 y 5]
  | .reti => [0xED, 0x4D]
  | .im0 y => [0xED, opcodeXyz 1 y 6]
  | .im1 y => [0xED, opcodeXyz 1 y 6]
  | .im2 y => [0xED, opcodeXyz 1 y 6]
  | .ldIA => [0xED, 0x47]
  | .ldRA => [0xED, 0x4F]
  | .ldAI => [0xED, 0x57]
  | .ldAR => [0xED, 0x5F]
  | .rrd => [0xED, 0x67]
  | .rld => [0xED, 0x6F]
  | .ldi => [0xED, 0xA0]
  | .cpi => [0xED, 0xA1]
  | .ini => [0xED, 0xA2]
  | .outi => [0xED, 0xA3]
  | .ldd => [0xED, 0xA8]
  | .cpd => [0xED, 0xA9]
  | .ind => [0xED, 0xAA]
  | .outd => [0xED, 0xAB]
  | .ldir => [0xED, 0xB0]
  | .cpir => [0xED, 0xB1]
  | .inir => [0xED, 0xB2]
  | .otir => [0xED, 0xB3]
  | .lddr => [0xED, 0xB8]
  | .cpdr => [0xED, 0xB9]
  | .indr => [0xED, 0xBA]
  | .otdr => [0xED, 0xBB]
  | .xyPrefix xy => [xy.byte]
  | .addXyPp xy pp => [xy.byte, opcodeXpqz 0 pp.code true 1]
  | .ldXyNn xy nn => xy.byte :: 0x21 :: nnBytes nn
  | .ldMemNnXy xy nn => xy.byte :: 0x22 :: nnBytes nn
  | .ldXyMemNn xy nn => xy.byte :: 0x2A :: nnBytes nn
  | .incXy xy => [xy.byte, 0x23]
  | .decXy xy => [xy.byte, 0x2B]
  | .incXyh xy h => [xy.byte, opcodeXyz 0 h.code 4]
  | .decXyh xy h => [xy.byte, opcodeXyz 0 h.code 5]
  | .ldXyhN xy h n => [xy.byte, opcodeXyz 0 h.code 6, n]
  | .incXyd xy d => [xy.byte, 0x34, d]
  | .decXyd xy d => [xy.byte, 0x35, d]
  | .ldXydN xy d n => [xy.byte, 0x36, d, n]
  | .ldRXyd xy r d => [xy.byte, opcodeXyz 1 r.code 6, d]
  | .ldXydR xy r d => [xy.byte, opcodeXyz 1 6 r.code, d]
  | .ldHlXyd xy r d => [xy.byte, opcodeXyz 1 r.code 6, d]
  | .ldXydHl xy r d => [xy.byte, opcodeXyz 1 6 r.code, d]
  | .ldAXyd xy d => [xy.byte, 0x7E, d]
  | .ldXydA xy d => [xy.byte, 0x77, d]
  | .ldRXyh xy r h => [xy.byte, opcodeXyz 1 r.code h.code]
  | .ldXyhR xy h r => [xy.byte, opcodeXyz 1 h.code r.code]
  | .ldXyhA xy h => [xy.byte, opcodeXyz 1 h.code 7]
  | .addAXyh xy h => [xy.byte, opcodeXyz 2 0 h.code]
  | .addAXyd xy d => [xy.byte, opcodeXyz 2 0 6, d]
  | .adcAXyh xy h => [xy.byte, opcodeXyz 2 1 h.code]
  | .adcAXyd xy d => [xy.byte, opcodeXyz 2 1 6, d]
  | .subXyh xy h => [xy.byte, opcodeXyz 2 2 h.code]
  | .subXyd xy d => [xy.byte, opcodeXyz 2 2 6, d]
  | .sbcAXyh xy h => [xy.byte, opcodeXyz 2 3 h.code]
  | .sbcAXyd xy d => [xy.byte, opcodeXyz 2 3 6, d]
  | .andXyh xy h => [xy.byte, opcodeXyz 2 4 h.code]
  | .andXyd xy d => [xy.byte, opcodeXyz 2 4 6, d]
  | .xorXyh xy h => [xy.byte, opcodeXyz 2 5 h.code]
  | .xorXyd xy d => [xy.byte, opcodeXyz 2 5 6, d]
  | .orXyh xy h => [xy.byte, opcodeXyz 2 6 h.code]
  | .orXyd xy d => [xy.byte, opcodeXyz 2 6 6, d]
  | .cpXyh xy h => [xy.byte, opcodeXyz 2 7 h.code]
  | .cpXyd xy d => [xy.byte, opcodeXyz 2 7 6, d]
  | .popXy xy => [xy.byte, 0xE1]
  | .exSpXy xy => [xy.byte, 0xE3]
  | .pushXy xy => [xy.byte, 0xE5]
  | .jpXy xy => [xy.byte, 0xE9]
  | .ldSpXy xy => [xy.byte, 0xF9]
  | .rlcXyd xy d => [xy.byte, 0xCB, d, opcodeXyz 0 0 6]
  | .ldRRlcXyd xy d r => [xy.byte, 0xCB, d, opcodeXyz 0 0 r.code]
  | .rrcXyd xy d => [xy.byte, 0xCB, d, opcodeXyz 0 1 6]
  | .ldRRrcXyd xy d r => [xy.byte, 0xCB, d, opcodeXyz 0 1 r.code]
  | .rlXyd xy d => [xy.byte, 0xCB, d, opcodeXyz 0 2 6]
  | .ldRRlXyd xy d r => [xy.byte, 0xCB, d, opcodeXyz 0 2 r.code]
  | .rrXyd xy d => [xy.byte, 0xCB, d, opcodeXyz 0 3 6]
  | .ldRRrXyd xy d r => [xy.byte, 0xCB, d, opcodeXyz 0 3 r.code]
  | .slaXyd xy d => [xy.byte, 0xCB, d, opcodeXyz 0 4 6]
  | .ldRSlaXyd xy d r => [xy.byte, 0xCB, d, opcodeXyz 0 4 r.code]
  | .sraXyd xy d => [xy.byte, 0xCB, d, opcodeXyz 0 5 6]
  | .ldRSraXyd xy d r => [xy.byte, 0xCB, d, opcodeXyz 0 5 r.code]
  | .sllXyd xy d => [xy.byte, 0xCB, d, opcodeXyz 0 6 6]
  | .ldRSllXyd xy d r => [xy.byte, 0xCB, d, opcodeXyz 0 6 r.code]
  | .srlXyd xy d => [xy.byte, 0xCB, d, opcodeXyz 0 7 6]
  | .ldRSrlXyd xy d r => [xy.byte, 0xCB, d, opcodeXyz 0 7 r.code]
  | .bitBXyd xy d b z => [xy.byte, 0xCB, d, opcodeXyz 1 b z]
  | .resBXyd xy d b => [xy.byte, 0xCB, d, opcodeXyz 2 b 6]
  | .ldRResBXyd xy d b r => [xy.byte, 0xCB, d, opcodeXyz 2 b r.code]
  | .setBXyd xy d b => [xy.byte, 0xCB, d, opcodeXyz 3 b 6]
  | .ldRSetBXyd xy d b r => [xy.byte, 0xCB, d, opcodeXyz 3 b r.code]

end Sys2Proof
end

