-- ==== Sys2Proof/Machine/Fetch.lean ====
section
/-! DEFINITION. How many opcode fetches the walk makes before an instruction's rule runs (spec 30_encoding R73, R74, R83, R86,
R91), and whether the leaf is EI. -/

namespace Sys2Proof.Machine

/-- The calls of `Fetch()` for the instruction's own opcode bytes: one in the plain region and for a DD or FD that falls back,
two after CB, ED, DD or FD. The displacement and sub-opcode of an indexed-CB instruction are not fetched so (R91). -/
def opcodeFetches : Instr → Nat
  | .nop | .exAfAf | .djnz _ | .jr _ | .jrCc _ _ | .ldDdNn _ _ | .addHlSs _ | .ldMemRrA _ | .ldAMemRr _
  | .ldMemNnHl _ | .ldHlMemNn _ | .ldMemNnA _ | .ldAMemNn _ | .incSs _ | .decSs _ | .incR _ | .incMemHl | .decR _
  | .decMemHl | .ldRN _ _ | .ldMemHlN _ | .rlca | .rrca | .rla | .rra | .daa | .cpl | .scf | .ccf | .ldRR _ _
  | .ldRMemHl _ | .ldMemHlR _ | .halt | .addAR _ | .addAMemHl | .addAN _ | .adcAR _ | .adcAMemHl | .adcAN _ | .subR _
  | .subMemHl | .subN _ | .sbcAR _ | .sbcAMemHl | .sbcAN _ | .andR _ | .andMemHl | .andN _ | .xorR _ | .xorMemHl
  | .xorN _ | .orR _ | .orMemHl | .orN _ | .cpR _ | .cpMemHl | .cpN _ | .retCc _ | .popQq _ | .ret | .exx | .jpHl
  | .ldSpHl | .jpCcNn _ _ | .jpNn _ | .outNA _ | .inAN _ | .exSpHl | .exDeHl | .di | .ei | .callCcNn _ _ | .pushQq _
  | .callNn _ | .rst _ | .xyPrefix _
    => 1
  | .rlcR _ | .rlcMemHl | .rrcR _ | .rrcMemHl | .rlR _ | .rlMemHl | .rrR _ | .rrMemHl | .slaR _ | .slaMemHl | .sraR _
  | .sraMemHl | .sllR _ | .sllMemHl | .srlR _ | .srlMemHl | .bitBR _ _ | .bitBMemHl _ | .resBR _ _ | .resBMemHl _
  | .setBR _ _ | .setBMemHl _ | .nopEd _ | .inRC _ | .inFC | .outCR _ | .outC0 | .sbcHlSs _ | .adcHlSs _
  | .ldMemNnDd _ _ | .ldDdMemNn _ _ | .neg _ | .retn _ | .reti | .im0 _ | .im1 _ | .im2 _ | .ldIA | .ldRA | .ldAI
  | .ldAR | .rrd | .rld | .ldi | .cpi | .ini | .outi | .ldd | .cpd | .ind | .outd | .ldir | .cpir | .inir | .otir
  | .lddr | .cpdr | .indr | .otdr | .addXyPp _ _ | .ldXyNn _ _ | .ldMemNnXy _ _ | .ldXyMemNn _ _ | .incXy _
  | .decXy _ | .incXyh _ _ | .decXyh _ _ | .ldXyhN _ _ _ | .incXyd _ _ | .decXyd _ _ | .ldXydN _ _ _ | .ldRXyd _ _ _
  | .ldXydR _ _ _ | .ldHlXyd _ _ _ | .ldXydHl _ _ _ | .ldAXyd _ _ | .ldXydA _ _ | .ldRXyh _ _ _ | .ldXyhR _ _ _
  | .ldXyhA _ _ | .addAXyh _ _ | .addAXyd _ _ | .adcAXyh _ _ | .adcAXyd _ _ | .subXyh _ _ | .subXyd _ _
  | .sbcAXyh _ _ | .sbcAXyd _ _ | .andXyh _ _ | .andXyd _ _ | .xorXyh _ _ | .xorXyd _ _ | .orXyh _ _ | .orXyd _ _
  | .cpXyh _ _ | .cpXyd _ _ | .popXy _ | .exSpXy _ | .pushXy _ | .jpXy _ | .ldSpXy _ | .rlcXyd _ _ | .ldRRlcXyd _ _ _
  | .rrcXyd _ _ | .ldRRrcXyd _ _ _ | .rlXyd _ _ | .ldRRlXyd _ _ _ | .rrXyd _ _ | .ldRRrXyd _ _ _ | .slaXyd _ _
  | .ldRSlaXyd _ _ _ | .sraXyd _ _ | .ldRSraXyd _ _ _ | .sllXyd _ _ | .ldRSllXyd _ _ _ | .srlXyd _ _
  | .ldRSrlXyd _ _ _ | .bitBXyd _ _ _ _ | .resBXyd _ _ _ | .ldRResBXyd _ _ _ _ | .setBXyd _ _ _ | .ldRSetBXyd _ _ _ _
    => 2

/-- The leaf is EI, which leaves EIdelay set (R40, R291). -/
def isEi (i : Instr) : Bool := i == .ei

/-- The instruction is a DD or FD that falls back: the walk goes on (R89). -/
def isXyPrefix (i : Instr) : Bool := i == .xyPrefix .ix || i == .xyPrefix .iy

end Sys2Proof.Machine
end

