-- ==== Sys2Proof/Machine/Run.lean ====
section
/-! DEFINITION. One step of the core: the walk over a prefix chain to one leaf instruction, the halted idle step, and what
comes before them (spec 60_exceptions R288, R290, R291; 30_encoding R70, R90). -/

namespace Sys2Proof.Machine

/-- The end of a dispatch: EIdelay is 1 if the leaf was EI, else 0 (R40, R291). -/
def endStep (i : Instr) : Result → Result
  | .next s => .next (s.setEiDelay (isEi i))
  | .fault r => .fault r
  | .refused r => .refused r

/-- What a rejection of the decoder becomes (R301). Neither comes about: the table has no hole (R100) and four bytes hold any
instruction (R94). -/
def rejected : DecodeReject → Result
  | .unpopulated region slot => .fault (.unpopulatedSlot region slot)
  | .truncated => .refused .truncatedFetch

/-- What one round of the walk comes to: the step's outcome, or the state in which the walk goes on. -/
inductive WalkRound where
  | done (r : Result)
  | on (s : State)

/-- One round of the walk from `Base` (R73): the instruction at PC has its opcode bytes fetched and runs. After a DD or FD that
falls back the walk goes on at the byte after it (R89, R90). -/
def walkRound (s : State) : WalkRound :=
  match decode s.fetchWindow with
  | .error r => .done (rejected r)
  | .ok (i, _) =>
    if isXyPrefix i then
      match exec i (s.fetchOps (opcodeFetches i)) with
      | .next s1 => .on s1
      | .fault r => .done (.fault r)
      | .refused r => .done (.refused r)
    else .done (endStep i (exec i (s.fetchOps (opcodeFetches i))))

/-- Rounds until one is the last, however many they are. It has no value where none is. -/
def untilDone (round : State → WalkRound) (s : State) : Option Result :=
  match round s with
  | .done r => some r
  | .on s1 => untilDone round s1
partial_fixpoint

/-- The walk to its end, over a chain of any length (R94). -/
def walk (s : State) : Option Result := untilDone walkRound s

/-- A dispatch: the whole walk (R290). The first rounds are taken one by one, so that the kernel can evaluate them; their number
makes no difference (`dispatch_rounds`). A chain that never ends is a fault of the model's own (log 8). -/
def dispatch : Nat → State → Result
  | 0, s => (walk s).getD (.fault .endlessPrefixChain)
  | n + 1, s =>
    match walkRound s with
    | .done r => r
    | .on s1 => dispatch n s1

/-- How many rounds `step` takes one by one: PC has then come round to where the chain began. -/
def firstRounds : Nat := 65536

/-- The halted idle step (R288). -/
def idleStep (s : State) : State := ((s.tick .contendRead s.pc 4).bumpR).setEiDelay false

/-- Which step happens (R291). -/
def runStep (s : State) : Result :=
  if s.resetDone then
    match s.faulted with
    | some r => .fault r
    | none => if s.halted then .next (idleStep s) else dispatch firstRounds s
  else .refused .beforeReset

/-- No region of the map is a device that holds one of the addresses from PC on that the longest instruction fills. -/
def clearOfDevices (regions : List MemRegion) (pc : Word) : List MemRegion :=
  regions.filter fun g => !(g.kind == .device && (g.holds pc || g.holds (pc + 1) || g.holds (pc + 2) || g.holds (pc + 3)))

/-- The machine about to fetch these four bytes at PC: reset, running, with the bytes in memory (log 10). -/
def placeBytes (s : State) (bs : List Byte) : State :=
  { s with
    resetDone := true
    faulted := none
    halted := false
    mem := s.mem.writeList s.pc bs
    platform := { s.platform with regions := clearOfDevices s.platform.regions s.pc } }

end Sys2Proof.Machine
end

