-- ==== Sys2Proof/Machine/Step.lean ====
section
/-! DEFINITION. The machine's step, and a word placed where it fetches. -/

namespace Sys2Proof.Machine

/-- One step of the core (R290, R291). -/
def step (s : State) : Host.Outcome State Fault Refusal := runStep s

/-- The state with an instruction's bits where `step` fetches next: the first byte is the low byte of `w`, and the bits
above `nbits` are 0, up to the longest instruction's four bytes (log 10). -/
def State.withFetchWord (s : State) (nbits w : Nat) : State := placeBytes s (bytesOf 4 (w % 2 ^ nbits))

end Sys2Proof.Machine
end

