-- ==== Sys2Proof/Machine/HostCalls.lean ====
section
/-! DEFINITION. The host's entry points (spec 60_exceptions R293 to R296; 10_state R45, R46; 20_memory R62). They act between
steps, never inside one (R290; log 13). -/

/-- What the cells hold between construction and the first reset: the spec gives them no value (R45). A free value nothing reads
(log 11). -/
opaque Sys2Proof.Config.unsetCells : Sys2Proof.Machine.State

namespace Sys2Proof.Machine

/-- `construct(memory, ports)`: the backends are there, no port event is logged, and no cell of the core holds a value, so no
call but `reset()` has a meaning yet (R45, R311; log 11). -/
def construct (mem : Memory) (platform : Platform) : State :=
  { Config.unsetCells with
    resetDone := false
    mem := mem
    platform := platform
    events := []
    draws := 0
    answers := [] }

/-- `reset()`: every cell of the core takes its reset value; memory, ports and the event log are not the core's (R294, R310). -/
def hostReset (s : State) : State :=
  { State.reset with mem := s.mem, events := s.events, draws := s.draws, answers := s.answers, platform := s.platform }

/-- `interrupt()` (R281, R282, R293). -/
def interrupt (s : State) : InterruptResult :=
  if s.resetDone then
    match s.faulted with
    | some r => .fault r s
    | none => if s.iff1 && !s.eiDelay then s.acceptInterrupt else .declined s
  else .refused .beforeReset

/-- The loop of `runToBudget`, for at most the given number of steps (R295). -/
def runLoop : Nat → Nat → State → Host.Outcome State Fault Refusal
  | 0, _, s => .next s
  | n + 1, budget, s =>
    if s.t < budget then
      match step s with
      | .next s1 => runLoop n budget s1
      | .fault r => .fault r
      | .refused r => .refused r
    else .next s

/-- `runToBudget()` (R295). Every step adds at least 4 to T (R322), so the difference bounds the steps (log 14). -/
def runToBudget (budget : Nat) (s : State) : Host.Outcome State Fault Refusal :=
  if s.resetDone then
    match s.faulted with
    | some r => .fault r
    | none => runLoop (budget - s.t) budget s
  else .refused .beforeReset

/-! ### Raw accessors (R46; log 16)

What an accessor reads from and writes to the cells, whatever the time. -/

/-- Reads one cell. -/
def State.rawRead (s : State) : RawCell → Nat
  | .reg r => (s.main.get r).toNat
  | .f => s.main.f.toNat
  | .shadowReg r => (s.shadow.get r).toNat
  | .shadowF => s.shadow.f.toNat
  | .half xy h => (s.half xy h).toNat
  | .sp => s.sp.toNat
  | .pc => s.pc.toNat
  | .i => s.i.toNat
  | .r => s.rByte.toNat
  | .iff1 => s.iff1.toNat
  | .iff2 => s.iff2.toNat
  | .im => s.im
  | .halted => s.halted.toNat
  | .t => s.t

/-- Writes one cell; a write of R sets both parts. -/
def State.rawWrite (s : State) (cell : RawCell) (v : Nat) : State :=
  match cell with
  | .reg r => s.setR8 r (BitVec.ofNat 8 v)
  | .f => s.setF (BitVec.ofNat 8 v)
  | .shadowReg r => s.setShadow (s.shadow.set r (BitVec.ofNat 8 v))
  | .shadowF => s.setShadow { s.shadow with f := BitVec.ofNat 8 v }
  | .half xy h => s.setHalf xy h (BitVec.ofNat 8 v)
  | .sp => s.setSp (BitVec.ofNat 16 v)
  | .pc => s.setPc (BitVec.ofNat 16 v)
  | .i => s.setI (BitVec.ofNat 8 v)
  | .r => s.setR (BitVec.ofNat 8 v)
  | .iff1 => s.setIffs (v % 2 == 1) s.iff2
  | .iff2 => s.setIffs s.iff1 (v % 2 == 1)
  | .im => s.setIm v
  | .halted => s.setHalted (v % 2 == 1)
  | .t => { s with t := v }

/-- Reads a pair from its two cells (R23). -/
def State.rawReadPair (s : State) : RawPair → Word
  | .bc => s.bc
  | .de => s.de
  | .hl => s.hl
  | .af => s.af
  | .shadowBc => mkWord s.shadow.b s.shadow.c
  | .shadowDe => mkWord s.shadow.d s.shadow.e
  | .shadowHl => mkWord s.shadow.h s.shadow.l
  | .shadowAf => mkWord s.shadow.a s.shadow.f
  | .ix => s.xy .ix
  | .iy => s.xy .iy

/-- Writes both cells of a pair (R23, R46). -/
def State.rawWritePair (s : State) (pair : RawPair) (v : Word) : State :=
  match pair with
  | .bc => s.setBc v
  | .de => s.setDe v
  | .hl => s.setHl v
  | .af => s.setAf v
  | .shadowBc => s.setShadow { s.shadow with b := hiByte v, c := loByte v }
  | .shadowDe => s.setShadow { s.shadow with d := hiByte v, e := loByte v }
  | .shadowHl => s.setShadow { s.shadow with h := hiByte v, l := loByte v }
  | .shadowAf => s.setShadow { s.shadow with a := hiByte v, f := loByte v }
  | .ix => s.setXy .ix v
  | .iy => s.setXy .iy v

/-! The accessor calls: before the first reset no cell holds a value, so a read gives none and a write has nothing to set
(R45; log 11). -/

/-- The host's raw read of a cell. -/
def readCell (s : State) (cell : RawCell) : Option Nat := if s.resetDone then some (s.rawRead cell) else none

/-- The host's raw write of a cell. -/
def writeCell (s : State) (cell : RawCell) (v : Nat) : State := if s.resetDone then s.rawWrite cell v else s

/-- The host's raw read of a pair. -/
def readPair (s : State) (pair : RawPair) : Option Word := if s.resetDone then some (s.rawReadPair pair) else none

/-- The host's raw write of a pair. -/
def writePair (s : State) (pair : RawPair) (v : Word) : State := if s.resetDone then s.rawWritePair pair v else s

/-! ### Debug access to memory (R62) -/

/-- The untimed debug write and raw buffer edit of the memory backend (R62); its read is `State.peek`. -/
def State.debugWrite (s : State) (a : Word) (v : Byte) : State := { s with mem := s.mem.write a.toNat v }

end Sys2Proof.Machine
end

