-- ==== Sys2Proof/Machine/Timing.lean ====
section
/-! DEFINITION. The base T-state totals of spec 70_reset_and_hazards R320, written from its tables: the whole instruction, its
opcode fetches included, with no contention. Nothing of the machine uses them: the statements compare the machine with them. -/

namespace Sys2Proof.Machine

/-- R320. A conditional form costs its first figure if taken, a repeating form its first figure if it repeats; the condition
is read in the state the rule starts in. -/
def baseT (i : Instr) (s : State) : Nat :=
  match i with
  | .djnz _ => if s.main.b = 1 then 8 else 13
  | .jrCc cc _ => if s.cond cc then 12 else 7
  | .retCc cc => if s.cond cc then 11 else 5
  | .callCcNn cc _ => if s.cond cc then 17 else 10
  | .ldir | .lddr => if s.bc = 1 then 16 else 21
  | .cpir | .cpdr => if s.bc = 1 ∨ s.main.a = s.byteAt s.hl then 16 else 21
  | .inir | .indr | .otir | .otdr => if s.main.b = 1 then 16 else 21
  | .nop | .exAfAf | .incR _ | .decR _ | .rlca | .rrca | .rla | .rra | .daa | .cpl | .scf | .ccf | .ldRR _ _ | .halt
  | .addAR _ | .adcAR _ | .subR _ | .sbcAR _ | .andR _ | .xorR _ | .orR _ | .cpR _ | .exx | .jpHl | .exDeHl | .di
  | .ei | .xyPrefix _
    => 4
  | .jr _ | .bitBMemHl _ | .inRC _ | .inFC | .outCR _ | .outC0
    => 12
  | .ldDdNn _ _ | .ldMemHlN _ | .popQq _ | .ret | .jpCcNn _ _ | .jpNn _ | .incXy _ | .decXy _ | .ldSpXy _
    => 10
  | .addHlSs _ | .incMemHl | .decMemHl | .outNA _ | .inAN _ | .pushQq _ | .rst _ | .ldXyhN _ _ _
    => 11
  | .ldMemRrA _ | .ldAMemRr _ | .ldRN _ _ | .ldRMemHl _ | .ldMemHlR _ | .addAMemHl | .addAN _ | .adcAMemHl | .adcAN _
  | .subMemHl | .subN _ | .sbcAMemHl | .sbcAN _ | .andMemHl | .andN _ | .xorMemHl | .xorN _ | .orMemHl | .orN _
  | .cpMemHl | .cpN _
    => 7
  | .ldMemNnHl _ | .ldHlMemNn _ | .ldi | .cpi | .ini | .outi | .ldd | .cpd | .ind | .outd
    => 16
  | .ldMemNnA _ | .ldAMemNn _
    => 13
  | .incSs _ | .decSs _ | .ldSpHl
    => 6
  | .exSpHl | .ldXydN _ _ _ | .ldRXyd _ _ _ | .ldXydR _ _ _ | .ldHlXyd _ _ _ | .ldXydHl _ _ _ | .ldAXyd _ _
  | .ldXydA _ _ | .addAXyd _ _ | .adcAXyd _ _ | .subXyd _ _ | .sbcAXyd _ _ | .andXyd _ _ | .xorXyd _ _ | .orXyd _ _
  | .cpXyd _ _
    => 19
  | .callNn _
    => 17
  | .rlcR _ | .rrcR _ | .rlR _ | .rrR _ | .slaR _ | .sraR _ | .sllR _ | .srlR _ | .bitBR _ _ | .resBR _ _
  | .setBR _ _ | .nopEd _ | .neg _ | .im0 _ | .im1 _ | .im2 _ | .incXyh _ _ | .decXyh _ _ | .ldRXyh _ _ _
  | .ldXyhR _ _ _ | .ldXyhA _ _ | .addAXyh _ _ | .adcAXyh _ _ | .subXyh _ _ | .sbcAXyh _ _ | .andXyh _ _
  | .xorXyh _ _ | .orXyh _ _ | .cpXyh _ _ | .jpXy _
    => 8
  | .rlcMemHl | .rrcMemHl | .rlMemHl | .rrMemHl | .slaMemHl | .sraMemHl | .sllMemHl | .srlMemHl | .resBMemHl _
  | .setBMemHl _ | .sbcHlSs _ | .adcHlSs _ | .addXyPp _ _ | .pushXy _
    => 15
  | .ldMemNnDd _ _ | .ldDdMemNn _ _ | .ldMemNnXy _ _ | .ldXyMemNn _ _ | .bitBXyd _ _ _ _
    => 20
  | .retn _ | .reti | .ldXyNn _ _ | .popXy _
    => 14
  | .ldIA | .ldRA | .ldAI | .ldAR
    => 9
  | .rrd | .rld
    => 18
  | .incXyd _ _ | .decXyd _ _ | .exSpXy _ | .rlcXyd _ _ | .ldRRlcXyd _ _ _ | .rrcXyd _ _ | .ldRRrcXyd _ _ _
  | .rlXyd _ _ | .ldRRlXyd _ _ _ | .rrXyd _ _ | .ldRRrXyd _ _ _ | .slaXyd _ _ | .ldRSlaXyd _ _ _ | .sraXyd _ _
  | .ldRSraXyd _ _ _ | .sllXyd _ _ | .ldRSllXyd _ _ _ | .srlXyd _ _ | .ldRSrlXyd _ _ _ | .resBXyd _ _ _
  | .ldRResBXyd _ _ _ _ | .setBXyd _ _ _ | .ldRSetBXyd _ _ _ _
    => 23

end Sys2Proof.Machine
end

