-- ==== Sys2Proof/Safety.lean ====
section
/-! DEFINITION. The terms claims are made in: the invariant of the machine, and what each instruction may change, written from
the instruction rules of the spec (40 to 46), not from the meanings. Nothing of the machine uses this file. -/

namespace Sys2Proof.Machine

/-- What holds at every boundary of a run that no raw accessor has disturbed: memory in canonical form, IM one of 0, 1, 2
(R35), IFF1 equal to IFF2 (R259). -/
abbrev Inv (s : State) : Prop := s.mem.wf = true ∧ s.im ≤ 2 ∧ s.iff1 = s.iff2

/-- The cells of a pair of field `rp`. -/
def rpCells : RP → List RawCell
  | .bc => [.reg .b, .reg .c]
  | .de => [.reg .d, .reg .e]
  | .hl => [.reg .h, .reg .l]
  | .sp => [.sp]

/-- The cells of a pair of field `rp2`. -/
def rp2Cells : RP2 → List RawCell
  | .bc => [.reg .b, .reg .c]
  | .de => [.reg .d, .reg .e]
  | .hl => [.reg .h, .reg .l]
  | .af => [.reg .a, .f]

/-- The cell the destination of `LD r,XYh` names. -/
def xregCell (xy : XY) : XReg → RawCell
  | .b => .reg .b
  | .c => .reg .c
  | .d => .reg .d
  | .e => .reg .e
  | .xh => .half xy .hi
  | .xl => .half xy .lo
  | .a => .reg .a

/-- The cells an instruction's rule may write, but for PC and T, which any instruction may change. -/
def cellsWritten : Instr → List RawCell
  | .addAR _ | .addAMemHl | .addAN _ | .addAXyh _ _ | .addAXyd _ _ | .adcAR _ | .adcAMemHl | .adcAN _ | .adcAXyh _ _
  | .adcAXyd _ _ | .subR _ | .subMemHl | .subN _ | .subXyh _ _ | .subXyd _ _ | .sbcAR _ | .sbcAMemHl | .sbcAN _
  | .sbcAXyh _ _ | .sbcAXyd _ _ | .andR _ | .andMemHl | .andN _ | .andXyh _ _ | .andXyd _ _ | .xorR _ | .xorMemHl
  | .xorN _ | .xorXyh _ _ | .xorXyd _ _ | .orR _ | .orMemHl | .orN _ | .orXyh _ _ | .orXyd _ _ | .daa | .cpl | .rlca
  | .rrca | .rla | .rra | .neg _ | .ldAI | .ldAR | .rld | .rrd
    => [.reg .a, .f]
  | .cpR _ | .cpMemHl | .cpN _ | .cpXyh _ _ | .cpXyd _ _ | .scf | .ccf | .inFC | .incMemHl | .decMemHl | .incXyd _ _
  | .decXyd _ _ | .rlcMemHl | .rlcXyd _ _ | .rrcMemHl | .rrcXyd _ _ | .rlMemHl | .rlXyd _ _ | .rrMemHl | .rrXyd _ _
  | .slaMemHl | .slaXyd _ _ | .sraMemHl | .sraXyd _ _ | .sllMemHl | .sllXyd _ _ | .srlMemHl | .srlXyd _ _
  | .bitBR _ _ | .bitBMemHl _ | .bitBXyd _ _ _ _
    => [.f]
  | .ldRR r _ | .ldRN r _ | .ldRMemHl r | .ldRXyd _ r _ | .ldHlXyd _ r _ | .resBR _ r | .setBR _ r
  | .ldRResBXyd _ _ _ r | .ldRSetBXyd _ _ _ r
    => [.reg r]
  | .incR r | .decR r | .inRC r | .rlcR r | .rrcR r | .rlR r | .rrR r | .slaR r | .sraR r | .sllR r | .srlR r
  | .ldRRlcXyd _ _ r | .ldRRrcXyd _ _ r | .ldRRlXyd _ _ r | .ldRRrXyd _ _ r | .ldRSlaXyd _ _ r | .ldRSraXyd _ _ r
  | .ldRSllXyd _ _ r | .ldRSrlXyd _ _ r
    => [.reg r, .f]
  | .ldAXyd _ _ | .ldAMemRr _ | .ldAMemNn _ | .inAN _ => [.reg .a]
  | .ldRXyh xy r _ => [xregCell xy r]
  | .ldXyhR xy h _ | .ldXyhA xy h | .ldXyhN xy h _ => [.half xy h]
  | .incXyh xy h | .decXyh xy h => [.half xy h, .f]
  | .ldDdNn dd _ | .ldDdMemNn dd _ => rpCells dd
  | .incSs ss | .decSs ss => rpCells ss
  | .ldXyNn xy _ | .ldXyMemNn xy _ | .incXy xy | .decXy xy | .exSpXy xy => [.half xy .hi, .half xy .lo]
  | .addXyPp xy _ => [.half xy .hi, .half xy .lo, .f]
  | .popXy xy => [.half xy .hi, .half xy .lo, .sp]
  | .ldHlMemNn _ | .exSpHl => [.reg .h, .reg .l]
  | .addHlSs _ | .adcHlSs _ | .sbcHlSs _ => [.reg .h, .reg .l, .f]
  | .popQq qq => .sp :: rp2Cells qq
  | .pushQq _ | .pushXy _ | .ldSpHl | .ldSpXy _ | .callNn _ | .ret | .rst _ => [.sp]
  | .callCcNn _ _ | .retCc _ => [.sp]
  | .retn _ | .reti => [.sp, .iff1]
  | .exDeHl => [.reg .d, .reg .e, .reg .h, .reg .l]
  | .exAfAf => [.reg .a, .f, .shadowReg .a, .shadowF]
  | .exx
    => [.reg .b, .reg .c, .reg .d, .reg .e, .reg .h, .reg .l,
      .shadowReg .b, .shadowReg .c, .shadowReg .d, .shadowReg .e, .shadowReg .h, .shadowReg .l]
  | .djnz _ => [.reg .b]
  | .di | .ei => [.iff1, .iff2]
  | .im0 _ | .im1 _ | .im2 _ => [.im]
  | .halt => [.halted]
  | .ldIA => [.i]
  | .ldRA => [.r]
  | .ldi | .ldd | .ldir | .lddr => [.reg .b, .reg .c, .reg .d, .reg .e, .reg .h, .reg .l, .f]
  | .cpi | .cpd | .cpir | .cpdr => [.reg .b, .reg .c, .reg .h, .reg .l, .f]
  | .ini | .outi | .ind | .outd | .inir | .otir | .indr | .otdr => [.reg .b, .reg .h, .reg .l, .f]
  | .nop | .jr _ | .jrCc _ _ | .ldMemRrA _ | .ldMemNnHl _ | .ldMemNnA _ | .ldMemHlN _ | .ldMemHlR _ | .jpHl
  | .jpCcNn _ _ | .jpNn _ | .outNA _ | .resBMemHl _ | .setBMemHl _ | .nopEd _ | .outCR _ | .outC0 | .ldMemNnDd _ _
  | .xyPrefix _ | .ldMemNnXy _ _ | .ldXydN _ _ _ | .ldXydR _ _ _ | .ldXydHl _ _ _ | .ldXydA _ _ | .jpXy _
  | .resBXyd _ _ _ | .setBXyd _ _ _
    => []

/-- The flags an instruction's rule writes, as a mask over F (R30: a flag not listed is unchanged). -/
def flagsWritten : Instr → Byte
  | .addAR _ | .addAMemHl | .addAN _ | .addAXyh _ _ | .addAXyd _ _ | .adcAR _ | .adcAMemHl | .adcAN _ | .adcAXyh _ _
  | .adcAXyd _ _ | .subR _ | .subMemHl | .subN _ | .subXyh _ _ | .subXyd _ _ | .sbcAR _ | .sbcAMemHl | .sbcAN _
  | .sbcAXyh _ _ | .sbcAXyd _ _ | .andR _ | .andMemHl | .andN _ | .andXyh _ _ | .andXyd _ _ | .xorR _ | .xorMemHl
  | .xorN _ | .xorXyh _ _ | .xorXyd _ _ | .orR _ | .orMemHl | .orN _ | .orXyh _ _ | .orXyd _ _ | .cpR _ | .cpMemHl
  | .cpN _ | .cpXyh _ _ | .cpXyd _ _ | .daa | .neg _ | .adcHlSs _ | .sbcHlSs _ | .rlcR _ | .rlcMemHl | .rlcXyd _ _
  | .rrcR _ | .rrcMemHl | .rrcXyd _ _ | .rlR _ | .rlMemHl | .rlXyd _ _ | .rrR _ | .rrMemHl | .rrXyd _ _ | .slaR _
  | .slaMemHl | .slaXyd _ _ | .sraR _ | .sraMemHl | .sraXyd _ _ | .sllR _ | .sllMemHl | .sllXyd _ _ | .srlR _
  | .srlMemHl | .srlXyd _ _ | .ldRRlcXyd _ _ _ | .ldRRrcXyd _ _ _ | .ldRRlXyd _ _ _ | .ldRRrXyd _ _ _
  | .ldRSlaXyd _ _ _ | .ldRSraXyd _ _ _ | .ldRSllXyd _ _ _ | .ldRSrlXyd _ _ _ | .ini | .outi | .ind | .outd | .inir
  | .otir | .indr | .otdr | .exAfAf
    => 0xFF
  | .popQq qq => if qq = .af then 0xFF else 0
  | .incR _ | .incMemHl | .incXyh _ _ | .incXyd _ _ | .decR _ | .decMemHl | .decXyh _ _ | .decXyd _ _ | .bitBR _ _
  | .bitBMemHl _ | .bitBXyd _ _ _ _ | .rld | .rrd | .inRC _ | .inFC | .ldAI | .ldAR | .cpi | .cpd | .cpir | .cpdr
    => 0xFE
  | .cpl => flagH ||| flagN ||| flagX5 ||| flagX3
  | .scf | .ccf | .addHlSs _ | .addXyPp _ _ | .rlca | .rrca | .rla | .rra
    => flagC ||| flagN ||| flagH ||| flagX5 ||| flagX3
  | .ldi | .ldd | .ldir | .lddr => flagH ||| flagN ||| flagPV ||| flagX5 ||| flagX3
  | .nop | .djnz _ | .jr _ | .jrCc _ _ | .ldDdNn _ _ | .ldMemRrA _ | .ldAMemRr _ | .ldMemNnHl _ | .ldHlMemNn _
  | .ldMemNnA _ | .ldAMemNn _ | .incSs _ | .decSs _ | .ldRN _ _ | .ldMemHlN _ | .ldRR _ _ | .ldRMemHl _ | .ldMemHlR _
  | .halt | .retCc _ | .ret | .exx | .jpHl | .ldSpHl | .jpCcNn _ _ | .jpNn _ | .outNA _ | .inAN _ | .exSpHl | .exDeHl
  | .di | .ei | .callCcNn _ _ | .pushQq _ | .callNn _ | .rst _ | .resBR _ _ | .resBMemHl _ | .setBR _ _
  | .setBMemHl _ | .nopEd _ | .outCR _ | .outC0 | .ldMemNnDd _ _ | .ldDdMemNn _ _ | .retn _ | .reti | .im0 _ | .im1 _
  | .im2 _ | .ldIA | .ldRA | .xyPrefix _ | .ldXyNn _ _ | .ldMemNnXy _ _ | .ldXyMemNn _ _ | .incXy _ | .decXy _
  | .ldXyhN _ _ _ | .ldXydN _ _ _ | .ldRXyd _ _ _ | .ldXydR _ _ _ | .ldHlXyd _ _ _ | .ldXydHl _ _ _ | .ldAXyd _ _
  | .ldXydA _ _ | .ldRXyh _ _ _ | .ldXyhR _ _ _ | .ldXyhA _ _ | .popXy _ | .exSpXy _ | .pushXy _ | .jpXy _
  | .ldSpXy _ | .resBXyd _ _ _ | .ldRResBXyd _ _ _ _ | .setBXyd _ _ _ | .ldRSetBXyd _ _ _ _
    => 0

/-- The addresses an instruction stores to, from the state its rule starts in. -/
def storedAddrs (i : Instr) (s : State) : List Word :=
  match i with
  | .ldMemHlR _ | .ldMemHlN _ | .incMemHl | .decMemHl | .rlcMemHl | .rrcMemHl | .rlMemHl | .rrMemHl | .slaMemHl
  | .sraMemHl | .sllMemHl | .srlMemHl | .resBMemHl _ | .setBMemHl _ | .rld | .rrd | .ini | .ind | .inir | .indr
    => [s.hl]
  | .ldXydR xy _ d | .ldXydHl xy _ d | .ldXydA xy d | .ldXydN xy d _ | .incXyd xy d | .decXyd xy d | .rlcXyd xy d
  | .rrcXyd xy d | .rlXyd xy d | .rrXyd xy d | .slaXyd xy d | .sraXyd xy d | .sllXyd xy d | .srlXyd xy d
  | .ldRRlcXyd xy d _ | .ldRRrcXyd xy d _ | .ldRRlXyd xy d _ | .ldRRrXyd xy d _ | .ldRSlaXyd xy d _
  | .ldRSraXyd xy d _ | .ldRSllXyd xy d _ | .ldRSrlXyd xy d _ | .resBXyd xy d _ | .setBXyd xy d _
  | .ldRResBXyd xy d _ _ | .ldRSetBXyd xy d _ _
    => [s.eaXy xy d]
  | .ldMemRrA rr => [s.rr rr]
  | .ldMemNnA nn => [nn]
  | .ldMemNnHl nn | .ldMemNnXy _ nn | .ldMemNnDd _ nn => [nn, nn + 1]
  | .pushQq _ | .pushXy _ | .callNn _ | .rst _ => [s.sp - 1, s.sp - 2]
  | .callCcNn cc _ => if s.cond cc then [s.sp - 1, s.sp - 2] else []
  | .exSpHl | .exSpXy _ => [s.sp, s.sp + 1]
  | .ldi | .ldd | .ldir | .lddr => [s.de]
  | .nop | .exAfAf | .djnz _ | .jr _ | .jrCc _ _ | .ldDdNn _ _ | .addHlSs _ | .ldAMemRr _ | .ldHlMemNn _
  | .ldAMemNn _ | .incSs _ | .decSs _ | .incR _ | .decR _ | .ldRN _ _ | .rlca | .rrca | .rla | .rra | .daa | .cpl
  | .scf | .ccf | .ldRR _ _ | .ldRMemHl _ | .halt | .addAR _ | .addAMemHl | .addAN _ | .adcAR _ | .adcAMemHl
  | .adcAN _ | .subR _ | .subMemHl | .subN _ | .sbcAR _ | .sbcAMemHl | .sbcAN _ | .andR _ | .andMemHl | .andN _
  | .xorR _ | .xorMemHl | .xorN _ | .orR _ | .orMemHl | .orN _ | .cpR _ | .cpMemHl | .cpN _ | .retCc _ | .popQq _
  | .ret | .exx | .jpHl | .ldSpHl | .jpCcNn _ _ | .jpNn _ | .outNA _ | .inAN _ | .exDeHl | .di | .ei | .rlcR _
  | .rrcR _ | .rlR _ | .rrR _ | .slaR _ | .sraR _ | .sllR _ | .srlR _ | .bitBR _ _ | .bitBMemHl _ | .resBR _ _
  | .setBR _ _ | .nopEd _ | .inRC _ | .inFC | .outCR _ | .outC0 | .sbcHlSs _ | .adcHlSs _ | .ldDdMemNn _ _ | .neg _
  | .retn _ | .reti | .im0 _ | .im1 _ | .im2 _ | .ldIA | .ldRA | .ldAI | .ldAR | .cpi | .outi | .cpd | .outd | .cpir
  | .otir | .cpdr | .otdr | .xyPrefix _ | .addXyPp _ _ | .ldXyNn _ _ | .ldXyMemNn _ _ | .incXy _ | .decXy _
  | .incXyh _ _ | .decXyh _ _ | .ldXyhN _ _ _ | .ldRXyd _ _ _ | .ldHlXyd _ _ _ | .ldAXyd _ _ | .ldRXyh _ _ _
  | .ldXyhR _ _ _ | .ldXyhA _ _ | .addAXyh _ _ | .addAXyd _ _ | .adcAXyh _ _ | .adcAXyd _ _ | .subXyh _ _
  | .subXyd _ _ | .sbcAXyh _ _ | .sbcAXyd _ _ | .andXyh _ _ | .andXyd _ _ | .xorXyh _ _ | .xorXyd _ _ | .orXyh _ _
  | .orXyd _ _ | .cpXyh _ _ | .cpXyd _ _ | .popXy _ | .jpXy _ | .ldSpXy _ | .bitBXyd _ _ _ _
    => []

/-- The instructions that reach a port (R52). -/
def usesPorts : Instr → Bool
  | .inAN _ | .outNA _ | .inRC _ | .inFC | .outCR _ | .outC0 | .ini | .outi | .ind | .outd | .inir | .otir | .indr
  | .otdr
    => true
  | .nop | .exAfAf | .djnz _ | .jr _ | .jrCc _ _ | .ldDdNn _ _ | .addHlSs _ | .ldMemRrA _ | .ldAMemRr _
  | .ldMemNnHl _ | .ldHlMemNn _ | .ldMemNnA _ | .ldAMemNn _ | .incSs _ | .decSs _ | .incR _ | .incMemHl | .decR _
  | .decMemHl | .ldRN _ _ | .ldMemHlN _ | .rlca | .rrca | .rla | .rra | .daa | .cpl | .scf | .ccf | .ldRR _ _
  | .ldRMemHl _ | .ldMemHlR _ | .halt | .addAR _ | .addAMemHl | .addAN _ | .adcAR _ | .adcAMemHl | .adcAN _ | .subR _
  | .subMemHl | .subN _ | .sbcAR _ | .sbcAMemHl | .sbcAN _ | .andR _ | .andMemHl | .andN _ | .xorR _ | .xorMemHl
  | .xorN _ | .orR _ | .orMemHl | .orN _ | .cpR _ | .cpMemHl | .cpN _ | .retCc _ | .popQq _ | .ret | .exx | .jpHl
  | .ldSpHl | .jpCcNn _ _ | .jpNn _ | .exSpHl | .exDeHl | .di | .ei | .callCcNn _ _ | .pushQq _ | .callNn _ | .rst _
  | .rlcR _ | .rlcMemHl | .rrcR _ | .rrcMemHl | .rlR _ | .rlMemHl | .rrR _ | .rrMemHl | .slaR _ | .slaMemHl | .sraR _
  | .sraMemHl | .sllR _ | .sllMemHl | .srlR _ | .srlMemHl | .bitBR _ _ | .bitBMemHl _ | .resBR _ _ | .resBMemHl _
  | .setBR _ _ | .setBMemHl _ | .nopEd _ | .sbcHlSs _ | .adcHlSs _ | .ldMemNnDd _ _ | .ldDdMemNn _ _ | .neg _
  | .retn _ | .reti | .im0 _ | .im1 _ | .im2 _ | .ldIA | .ldRA | .ldAI | .ldAR | .rrd | .rld | .ldi | .cpi | .ldd
  | .cpd | .ldir | .cpir | .lddr | .cpdr | .xyPrefix _ | .addXyPp _ _ | .ldXyNn _ _ | .ldMemNnXy _ _ | .ldXyMemNn _ _
  | .incXy _ | .decXy _ | .incXyh _ _ | .decXyh _ _ | .ldXyhN _ _ _ | .incXyd _ _ | .decXyd _ _ | .ldXydN _ _ _
  | .ldRXyd _ _ _ | .ldXydR _ _ _ | .ldHlXyd _ _ _ | .ldXydHl _ _ _ | .ldAXyd _ _ | .ldXydA _ _ | .ldRXyh _ _ _
  | .ldXyhR _ _ _ | .ldXyhA _ _ | .addAXyh _ _ | .addAXyd _ _ | .adcAXyh _ _ | .adcAXyd _ _ | .subXyh _ _
  | .subXyd _ _ | .sbcAXyh _ _ | .sbcAXyd _ _ | .andXyh _ _ | .andXyd _ _ | .xorXyh _ _ | .xorXyd _ _ | .orXyh _ _
  | .orXyd _ _ | .cpXyh _ _ | .cpXyd _ _ | .popXy _ | .exSpXy _ | .pushXy _ | .jpXy _ | .ldSpXy _ | .rlcXyd _ _
  | .ldRRlcXyd _ _ _ | .rrcXyd _ _ | .ldRRrcXyd _ _ _ | .rlXyd _ _ | .ldRRlXyd _ _ _ | .rrXyd _ _ | .ldRRrXyd _ _ _
  | .slaXyd _ _ | .ldRSlaXyd _ _ _ | .sraXyd _ _ | .ldRSraXyd _ _ _ | .sllXyd _ _ | .ldRSllXyd _ _ _ | .srlXyd _ _
  | .ldRSrlXyd _ _ _ | .bitBXyd _ _ _ _ | .resBXyd _ _ _ | .ldRResBXyd _ _ _ _ | .setBXyd _ _ _ | .ldRSetBXyd _ _ _ _
    => false

/-- The instructions of the DD/FD+CB region, which set SCR (R39). -/
def setsScr : Instr → Bool
  | .rlcXyd _ _ | .rrcXyd _ _ | .rlXyd _ _ | .rrXyd _ _ | .slaXyd _ _ | .sraXyd _ _ | .sllXyd _ _ | .srlXyd _ _
  | .ldRRlcXyd _ _ _ | .ldRRrcXyd _ _ _ | .ldRRlXyd _ _ _ | .ldRRrXyd _ _ _ | .ldRSlaXyd _ _ _ | .ldRSraXyd _ _ _
  | .ldRSllXyd _ _ _ | .ldRSrlXyd _ _ _ | .bitBXyd _ _ _ _ | .resBXyd _ _ _ | .setBXyd _ _ _ | .ldRResBXyd _ _ _ _
  | .ldRSetBXyd _ _ _ _
    => true
  | .nop | .exAfAf | .djnz _ | .jr _ | .jrCc _ _ | .ldDdNn _ _ | .addHlSs _ | .ldMemRrA _ | .ldAMemRr _
  | .ldMemNnHl _ | .ldHlMemNn _ | .ldMemNnA _ | .ldAMemNn _ | .incSs _ | .decSs _ | .incR _ | .incMemHl | .decR _
  | .decMemHl | .ldRN _ _ | .ldMemHlN _ | .rlca | .rrca | .rla | .rra | .daa | .cpl | .scf | .ccf | .ldRR _ _
  | .ldRMemHl _ | .ldMemHlR _ | .halt | .addAR _ | .addAMemHl | .addAN _ | .adcAR _ | .adcAMemHl | .adcAN _ | .subR _
  | .subMemHl | .subN _ | .sbcAR _ | .sbcAMemHl | .sbcAN _ | .andR _ | .andMemHl | .andN _ | .xorR _ | .xorMemHl
  | .xorN _ | .orR _ | .orMemHl | .orN _ | .cpR _ | .cpMemHl | .cpN _ | .retCc _ | .popQq _ | .ret | .exx | .jpHl
  | .ldSpHl | .jpCcNn _ _ | .jpNn _ | .outNA _ | .inAN _ | .exSpHl | .exDeHl | .di | .ei | .callCcNn _ _ | .pushQq _
  | .callNn _ | .rst _ | .rlcR _ | .rlcMemHl | .rrcR _ | .rrcMemHl | .rlR _ | .rlMemHl | .rrR _ | .rrMemHl | .slaR _
  | .slaMemHl | .sraR _ | .sraMemHl | .sllR _ | .sllMemHl | .srlR _ | .srlMemHl | .bitBR _ _ | .bitBMemHl _
  | .resBR _ _ | .resBMemHl _ | .setBR _ _ | .setBMemHl _ | .nopEd _ | .inRC _ | .inFC | .outCR _ | .outC0
  | .sbcHlSs _ | .adcHlSs _ | .ldMemNnDd _ _ | .ldDdMemNn _ _ | .neg _ | .retn _ | .reti | .im0 _ | .im1 _ | .im2 _
  | .ldIA | .ldRA | .ldAI | .ldAR | .rrd | .rld | .ldi | .cpi | .ini | .outi | .ldd | .cpd | .ind | .outd | .ldir
  | .cpir | .inir | .otir | .lddr | .cpdr | .indr | .otdr | .xyPrefix _ | .addXyPp _ _ | .ldXyNn _ _ | .ldMemNnXy _ _
  | .ldXyMemNn _ _ | .incXy _ | .decXy _ | .incXyh _ _ | .decXyh _ _ | .ldXyhN _ _ _ | .incXyd _ _ | .decXyd _ _
  | .ldXydN _ _ _ | .ldRXyd _ _ _ | .ldXydR _ _ _ | .ldHlXyd _ _ _ | .ldXydHl _ _ _ | .ldAXyd _ _ | .ldXydA _ _
  | .ldRXyh _ _ _ | .ldXyhR _ _ _ | .ldXyhA _ _ | .addAXyh _ _ | .addAXyd _ _ | .adcAXyh _ _ | .adcAXyd _ _
  | .subXyh _ _ | .subXyd _ _ | .sbcAXyh _ _ | .sbcAXyd _ _ | .andXyh _ _ | .andXyd _ _ | .xorXyh _ _ | .xorXyd _ _
  | .orXyh _ _ | .orXyd _ _ | .cpXyh _ _ | .cpXyd _ _ | .popXy _ | .exSpXy _ | .pushXy _ | .jpXy _ | .ldSpXy _
    => false


/-! ### Frames -/

/-- Every cell of the core but the listed ones, PC and T reads as before. -/
def SameCellsBut (cells : List RawCell) (s t : State) : Prop :=
  ∀ c : RawCell, c ∉ cells → c ≠ .pc → c ≠ .t → t.rawRead c = s.rawRead c

/-- Every flag outside the mask is as before (R30). -/
def SameFlagsBut (mask : Byte) (s t : State) : Prop :=
  ∀ k : Nat, k < 8 → mask.getLsbD k = false → t.f.getLsbD k = s.f.getLsbD k

/-- Every byte of memory at an address not listed reads as before. -/
def SameMemoryBut (addrs : List Word) (s t : State) : Prop := ∀ a : Word, a ∉ addrs → t.peek a = s.peek a

/-- What the rule of an instruction leaves unchanged, from the tables above: cells, flags, memory, SCR, the port log, EIdelay
(R40: within the rule only EI writes it), the latches the host sees, and the platform. -/
def Frame (i : Instr) (s t : State) : Prop :=
  SameCellsBut (cellsWritten i) s t ∧ SameFlagsBut (flagsWritten i) s t ∧ SameMemoryBut (storedAddrs i s) s t
    ∧ (setsScr i = false → t.scr = s.scr) ∧ (usesPorts i = false → t.events = s.events)
    ∧ (i ≠ .ei → t.eiDelay = s.eiDelay)
    ∧ t.faulted = s.faulted ∧ t.resetDone = s.resetDone ∧ t.platform = s.platform

/-- With no contention the instruction has cost its base total when its rule ends; the opcode fetches, four T-states each,
were charged before the rule began (R319, R320). -/
def BaseCost (i : Instr) (s t : State) : Prop :=
  s.platform.contended = false → t.t + 4 * opcodeFetches i = s.t + baseT i s

/-- The frame of an instruction and its base cost together. -/
def FrameAndCost (i : Instr) (s t : State) : Prop := Frame i s t ∧ BaseCost i s t

/-- The byte was stored under the platform's write policy (R51): RAM holds it; ROM and device contents are as before. -/
def Stored (s t : State) (a : Word) (v : Byte) : Prop := t.peek a = if s.kindAt a = .ram then v else s.peek a

/-- The word was stored low byte first: the low byte at the address, the high byte at the next (R53). -/
def StoredWord (s t : State) (a v : Word) : Prop := Stored s t a (loByte v) ∧ Stored s t (a + 1) (hiByte v)

/-- The machine dispatches on its next step (R291). -/
def Running (s : State) : Prop := s.resetDone = true ∧ s.faulted = none ∧ s.halted = false

/-- The next instruction is a DD or FD byte that falls back (R89). -/
def AtFallback (s : State) : Prop := ∃ xy rest, decode s.fetchWindow = .ok (.xyPrefix xy, rest)

/-- The next instruction is a leaf. -/
def AtLeaf (s : State) (i : Instr) : Prop := isXyPrefix i = false ∧ ∃ rest, decode s.fetchWindow = .ok (i, rest)

/-- The instructions whose rule writes PC other than by fetching (R211 to R223, R230, R260). -/
def movesPc : Instr → Bool
  | .djnz _ | .jr _ | .jrCc _ _ | .jpHl | .jpXy _ | .jpNn _ | .jpCcNn _ _ | .callNn _ | .callCcNn _ _ | .ret
  | .retCc _ | .retn _ | .reti | .rst _ | .ldir | .lddr | .cpir | .cpdr | .inir | .indr | .otir | .otdr | .halt
    => true
  | .nop | .exAfAf | .ldDdNn _ _ | .addHlSs _ | .ldMemRrA _ | .ldAMemRr _ | .ldMemNnHl _ | .ldHlMemNn _ | .ldMemNnA _
  | .ldAMemNn _ | .incSs _ | .decSs _ | .incR _ | .incMemHl | .decR _ | .decMemHl | .ldRN _ _ | .ldMemHlN _ | .rlca
  | .rrca | .rla | .rra | .daa | .cpl | .scf | .ccf | .ldRR _ _ | .ldRMemHl _ | .ldMemHlR _ | .addAR _ | .addAMemHl
  | .addAN _ | .adcAR _ | .adcAMemHl | .adcAN _ | .subR _ | .subMemHl | .subN _ | .sbcAR _ | .sbcAMemHl | .sbcAN _
  | .andR _ | .andMemHl | .andN _ | .xorR _ | .xorMemHl | .xorN _ | .orR _ | .orMemHl | .orN _ | .cpR _ | .cpMemHl
  | .cpN _ | .popQq _ | .exx | .ldSpHl | .outNA _ | .inAN _ | .exSpHl | .exDeHl | .di | .ei | .pushQq _ | .rlcR _
  | .rlcMemHl | .rrcR _ | .rrcMemHl | .rlR _ | .rlMemHl | .rrR _ | .rrMemHl | .slaR _ | .slaMemHl | .sraR _
  | .sraMemHl | .sllR _ | .sllMemHl | .srlR _ | .srlMemHl | .bitBR _ _ | .bitBMemHl _ | .resBR _ _ | .resBMemHl _
  | .setBR _ _ | .setBMemHl _ | .nopEd _ | .inRC _ | .inFC | .outCR _ | .outC0 | .sbcHlSs _ | .adcHlSs _
  | .ldMemNnDd _ _ | .ldDdMemNn _ _ | .neg _ | .im0 _ | .im1 _ | .im2 _ | .ldIA | .ldRA | .ldAI | .ldAR | .rrd | .rld
  | .ldi | .cpi | .ini | .outi | .ldd | .cpd | .ind | .outd | .xyPrefix _ | .addXyPp _ _ | .ldXyNn _ _
  | .ldMemNnXy _ _ | .ldXyMemNn _ _ | .incXy _ | .decXy _ | .incXyh _ _ | .decXyh _ _ | .ldXyhN _ _ _ | .incXyd _ _
  | .decXyd _ _ | .ldXydN _ _ _ | .ldRXyd _ _ _ | .ldXydR _ _ _ | .ldHlXyd _ _ _ | .ldXydHl _ _ _ | .ldAXyd _ _
  | .ldXydA _ _ | .ldRXyh _ _ _ | .ldXyhR _ _ _ | .ldXyhA _ _ | .addAXyh _ _ | .addAXyd _ _ | .adcAXyh _ _
  | .adcAXyd _ _ | .subXyh _ _ | .subXyd _ _ | .sbcAXyh _ _ | .sbcAXyd _ _ | .andXyh _ _ | .andXyd _ _ | .xorXyh _ _
  | .xorXyd _ _ | .orXyh _ _ | .orXyd _ _ | .cpXyh _ _ | .cpXyd _ _ | .popXy _ | .exSpXy _ | .pushXy _ | .ldSpXy _
  | .rlcXyd _ _ | .ldRRlcXyd _ _ _ | .rrcXyd _ _ | .ldRRrcXyd _ _ _ | .rlXyd _ _ | .ldRRlXyd _ _ _ | .rrXyd _ _
  | .ldRRrXyd _ _ _ | .slaXyd _ _ | .ldRSlaXyd _ _ _ | .sraXyd _ _ | .ldRSraXyd _ _ _ | .sllXyd _ _
  | .ldRSllXyd _ _ _ | .srlXyd _ _ | .ldRSrlXyd _ _ _ | .bitBXyd _ _ _ _ | .resBXyd _ _ _ | .ldRResBXyd _ _ _ _
  | .setBXyd _ _ _ | .ldRSetBXyd _ _ _ _
    => false

/-- The slots R98 gives a DD/FD handler, read off its map row by row; 0xCB leads to the DD/FD+CB region. -/
def xyHandlers : List Nat :=
  [0x09, 0x19, 0x21, 0x22, 0x23, 0x24, 0x25, 0x26, 0x29, 0x2A, 0x2B, 0x2C, 0x2D, 0x2E, 0x34, 0x35, 0x36, 0x39]
    ++ [0x44, 0x45, 0x46, 0x4C, 0x4D, 0x4E, 0x54, 0x55, 0x56, 0x5C, 0x5D, 0x5E]
    ++ [0x60, 0x61, 0x62, 0x63, 0x64, 0x65, 0x66, 0x67, 0x68, 0x69, 0x6A, 0x6B, 0x6C, 0x6D, 0x6E, 0x6F]
    ++ [0x70, 0x71, 0x72, 0x73, 0x74, 0x75, 0x77, 0x7C, 0x7D, 0x7E]
    ++ [0x84, 0x85, 0x86, 0x8C, 0x8D, 0x8E, 0x94, 0x95, 0x96, 0x9C, 0x9D, 0x9E]
    ++ [0xA4, 0xA5, 0xA6, 0xAC, 0xAD, 0xAE, 0xB4, 0xB5, 0xB6, 0xBC, 0xBD, 0xBE]
    ++ [0xCB, 0xE1, 0xE3, 0xE5, 0xE9, 0xF9]

/-! ### Flags by arithmetic

The flags as R28 describes them, from sums and comparisons of numbers, not from the tables of R140 to R147. -/

/-- The eight flags, the highest bit first (R28). -/
structure FlagBits where
  s : Bool
  z : Bool
  x5 : Bool
  h : Bool
  x3 : Bool
  pv : Bool
  n : Bool
  c : Bool
  deriving DecidableEq, Repr

/-- F as its flags (R28). -/
def flagBits (f : Byte) : FlagBits where
  s := f.getLsbD 7
  z := f.getLsbD 6
  x5 := f.getLsbD 5
  h := f.getLsbD 4
  x3 := f.getLsbD 3
  pv := f.getLsbD 2
  n := f.getLsbD 1
  c := f.getLsbD 0

/-- The byte has an even number of 1 bits. -/
def evenParity (v : Byte) : Bool :=
  !(v.getLsbD 0 ^^ v.getLsbD 1 ^^ v.getLsbD 2 ^^ v.getLsbD 3 ^^ v.getLsbD 4 ^^ v.getLsbD 5 ^^ v.getLsbD 6 ^^ v.getLsbD 7)

/-- The number is beyond the signed range of a width. -/
def beyondSigned (w : Nat) (x : Int) : Bool := decide (x < -2 ^ (w - 1)) || decide (2 ^ (w - 1) ≤ x)

/-- The flags of `a + v + c` with the result `res` (R149). -/
def addFlags (a v : Byte) (c : Nat) (res : Byte) : FlagBits where
  s := res.getLsbD 7
  z := res == 0
  x5 := res.getLsbD 5
  h := decide (16 ≤ a.toNat % 16 + v.toNat % 16 + c)
  x3 := res.getLsbD 3
  pv := beyondSigned 8 (a.toInt + v.toInt + c)
  n := false
  c := decide (256 ≤ a.toNat + v.toNat + c)

/-- The flags of `a - v - c` with the result `res` (R150). -/
def subFlags (a v : Byte) (c : Nat) (res : Byte) : FlagBits where
  s := res.getLsbD 7
  z := res == 0
  x5 := res.getLsbD 5
  h := decide (a.toNat % 16 < v.toNat % 16 + c)
  x3 := res.getLsbD 3
  pv := beyondSigned 8 (a.toInt - v.toInt - c)
  n := true
  c := decide (a.toNat < v.toNat + c)

/-- S, Z, X5 and X3 from a byte, PV its parity, N clear, with H and C given (R142). -/
def parityFlags (res : Byte) (h c : Bool) : FlagBits where
  s := res.getLsbD 7
  z := res == 0
  x5 := res.getLsbD 5
  h := h
  x3 := res.getLsbD 3
  pv := evenParity res
  n := false
  c := c

/-- The carry flag of a state as a number. -/
def carryNat (s : State) : Nat := if s.f.getLsbD 0 then 1 else 0

/-- A shift's result and the bit shifted out, by arithmetic (R180). -/
def shiftByArithmetic (op : Shift) (v : Byte) (c : Bool) : Byte × Bool :=
  match op with
  | .rlc => (v.rotateLeft 1, v.msb)
  | .rrc => (v.rotateRight 1, v.getLsbD 0)
  | .rl => (BitVec.ofNat 8 (2 * v.toNat + c.toNat), v.msb)
  | .rr => (BitVec.ofNat 8 (v.toNat / 2 + 128 * c.toNat), v.getLsbD 0)
  | .sla => (BitVec.ofNat 8 (2 * v.toNat), v.msb)
  | .sra => (v.sshiftRight 1, v.getLsbD 0)
  | .sll => (BitVec.ofNat 8 (2 * v.toNat + 1), v.msb)
  | .srl => (BitVec.ofNat 8 (v.toNat / 2), v.getLsbD 0)

/-! ### Families of constructors -/

/-- The eight ALU operations (R79). -/
inductive AluOp where
  | add | adc | sub | sbc | and | xor | or | cp
  deriving DecidableEq, Repr

/-- The instruction of an ALU operation on a source operand (R148, R151 to R158). -/
def aluForm : AluOp → Source → Instr
  | .add, .reg r => .addAR r
  | .add, .half xy h => .addAXyh xy h
  | .add, .imm n => .addAN n
  | .add, .memHl => .addAMemHl
  | .add, .memXyd xy d => .addAXyd xy d
  | .adc, .reg r => .adcAR r
  | .adc, .half xy h => .adcAXyh xy h
  | .adc, .imm n => .adcAN n
  | .adc, .memHl => .adcAMemHl
  | .adc, .memXyd xy d => .adcAXyd xy d
  | .sub, .reg r => .subR r
  | .sub, .half xy h => .subXyh xy h
  | .sub, .imm n => .subN n
  | .sub, .memHl => .subMemHl
  | .sub, .memXyd xy d => .subXyd xy d
  | .sbc, .reg r => .sbcAR r
  | .sbc, .half xy h => .sbcAXyh xy h
  | .sbc, .imm n => .sbcAN n
  | .sbc, .memHl => .sbcAMemHl
  | .sbc, .memXyd xy d => .sbcAXyd xy d
  | .and, .reg r => .andR r
  | .and, .half xy h => .andXyh xy h
  | .and, .imm n => .andN n
  | .and, .memHl => .andMemHl
  | .and, .memXyd xy d => .andXyd xy d
  | .xor, .reg r => .xorR r
  | .xor, .half xy h => .xorXyh xy h
  | .xor, .imm n => .xorN n
  | .xor, .memHl => .xorMemHl
  | .xor, .memXyd xy d => .xorXyd xy d
  | .or, .reg r => .orR r
  | .or, .half xy h => .orXyh xy h
  | .or, .imm n => .orN n
  | .or, .memHl => .orMemHl
  | .or, .memXyd xy d => .orXyd xy d
  | .cp, .reg r => .cpR r
  | .cp, .half xy h => .cpXyh xy h
  | .cp, .imm n => .cpN n
  | .cp, .memHl => .cpMemHl
  | .cp, .memXyd xy d => .cpXyd xy d

/-- `INC m` (R159). -/
def incForm : Source → Option Instr
  | .reg r => some (.incR r)
  | .half xy h => some (.incXyh xy h)
  | .memHl => some .incMemHl
  | .memXyd xy d => some (.incXyd xy d)
  | .imm _ => none

/-- `DEC m` (R160). -/
def decForm : Source → Option Instr
  | .reg r => some (.decR r)
  | .half xy h => some (.decXyh xy h)
  | .memHl => some .decMemHl
  | .memXyd xy d => some (.decXyd xy d)
  | .imm _ => none

/-- A CB shift of a register (R80, R96). -/
def shiftRForm (op : Shift) (r : R8) : Instr :=
  match op with
  | .rlc => .rlcR r
  | .rrc => .rrcR r
  | .rl => .rlR r
  | .rr => .rrR r
  | .sla => .slaR r
  | .sra => .sraR r
  | .sll => .sllR r
  | .srl => .srlR r

/-- A CB shift of the byte at HL (R80, R96). -/
def shiftMemHlForm : Shift → Instr
  | .rlc => .rlcMemHl
  | .rrc => .rrcMemHl
  | .rl => .rlMemHl
  | .rr => .rrMemHl
  | .sla => .slaMemHl
  | .sra => .sraMemHl
  | .sll => .sllMemHl
  | .srl => .srlMemHl

/-- A shift of the byte at XY+d (R92). -/
def shiftXydForm (op : Shift) (xy : XY) (d : Byte) : Instr :=
  match op with
  | .rlc => .rlcXyd xy d
  | .rrc => .rrcXyd xy d
  | .rl => .rlXyd xy d
  | .rr => .rrXyd xy d
  | .sla => .slaXyd xy d
  | .sra => .sraXyd xy d
  | .sll => .sllXyd xy d
  | .srl => .srlXyd xy d

/-- A shift of the byte at XY+d, copied into a register (R92, R198). -/
def shiftCopyForm (op : Shift) (xy : XY) (d : Byte) (r : R8) : Instr :=
  match op with
  | .rlc => .ldRRlcXyd xy d r
  | .rrc => .ldRRrcXyd xy d r
  | .rl => .ldRRlXyd xy d r
  | .rr => .ldRRrXyd xy d r
  | .sla => .ldRSlaXyd xy d r
  | .sra => .ldRSraXyd xy d r
  | .sll => .ldRSllXyd xy d r
  | .srl => .ldRSrlXyd xy d r

/-! ### The host's view -/

/-- What a raw cell can hold: every number below the bound, or any (R7, R46; log 16). -/
def cellBound : RawCell → Option Nat
  | .reg _ | .f | .shadowReg _ | .shadowF | .half _ _ | .i | .r => some 256
  | .sp | .pc => some 65536
  | .iff1 | .iff2 | .halted => some 2
  | .im | .t => none

/-- The high and the low cell of a pair (R22, R24). -/
def pairCells : RawPair → RawCell × RawCell
  | .bc => (.reg .b, .reg .c)
  | .de => (.reg .d, .reg .e)
  | .hl => (.reg .h, .reg .l)
  | .af => (.reg .a, .f)
  | .shadowBc => (.shadowReg .b, .shadowReg .c)
  | .shadowDe => (.shadowReg .d, .shadowReg .e)
  | .shadowHl => (.shadowReg .h, .shadowReg .l)
  | .shadowAf => (.shadowReg .a, .shadowF)
  | .ix => (.half .ix .hi, .half .ix .lo)
  | .iy => (.half .iy .hi, .half .iy .lo)

end Sys2Proof.Machine
end

