-- ==== Sys2Proof/Certificates/Slice0/Obligations.lean ====
section
/-! DEFINITION. The statements for the provers, from the numbered rules of the spec. `FrameAndCost` in them is the frame of the
instruction (which cells, flags, bytes of memory, SCR, port events and latches stay as they were) with its base cost. -/

open Sys2Proof Sys2Proof.Machine

/-- O1. Decoding an encoded well-formed instruction gives it back, with the bytes after it. Derived from 30_encoding. -/
def Obligations.EncodeThenDecode : Prop :=
  (∀ (i : Instr) (rest : List Byte), i.wf = true → isXyPrefix i = false → decode (encode i ++ rest) = .ok (i, rest))
    ∧ ∀ (xy : XY) (op : Byte) (rest : List Byte),
        decode (encode (.xyPrefix xy) ++ op :: rest) = .ok (.xyPrefix xy, op :: rest) ↔ op.toNat ∉ xyHandlers

/-- O2. Whatever the decoder reads is well formed, and its encoding is exactly the bytes it read. Derived from
30_encoding. -/
def Obligations.DecodeThenEncode : Prop :=
  ∀ (bs rest : List Byte) (i : Instr), decode bs = .ok (i, rest) → i.wf = true ∧ bs = encode i ++ rest

/-- O3. Every sequence of four bytes decodes, and no bytes reach an empty slot. Rule R100. -/
def Obligations.EveryByteSequenceDecodes : Prop :=
  (∀ (b0 b1 b2 b3 : Byte) (rest : List Byte), ∃ i r, decode (b0 :: b1 :: b2 :: b3 :: rest) = .ok (i, r))
    ∧ ∀ (bs : List Byte) (region : TableRegion) (slot : Byte), decode bs ≠ .error (.unpopulated region slot)

/-- O4. Words written out from the maps of R95 to R99 decode to the instructions there. Derived from 30_encoding. -/
def Obligations.WordsOfTheMaps : Prop :=
  decode [0x00] = .ok (.nop, [])
    ∧ decode [0x78] = .ok (.ldRR .a .b, [])
    ∧ decode [0x0E, 0x80] = .ok (.ldRN .c 0x80, [])
    ∧ decode [0x3A, 0x34, 0x12] = .ok (.ldAMemNn 0x1234, [])
    ∧ decode [0x31, 0x00, 0xFF] = .ok (.ldDdNn .sp 0xFF00, [])
    ∧ decode [0x76] = .ok (.halt, [])
    ∧ decode [0x86] = .ok (.addAMemHl, [])
    ∧ decode [0xFE, 0x28] = .ok (.cpN 0x28, [])
    ∧ decode [0x39] = .ok (.addHlSs .sp, [])
    ∧ decode [0x38, 0x20] = .ok (.jrCc .c 0x20, [])
    ∧ decode [0xCF] = .ok (.rst 1, [])
    ∧ decode [0xF5] = .ok (.pushQq .af, [])
    ∧ decode [0xCB, 0x37] = .ok (.sllR .a, [])
    ∧ decode [0xCB, 0x7E] = .ok (.bitBMemHl 7, [])
    ∧ decode [0xED, 0x71] = .ok (.outC0, [])
    ∧ decode [0xED, 0x4D] = .ok (.reti, [])
    ∧ decode [0xED, 0x55] = .ok (.retn 2, [])
    ∧ decode [0xED, 0x7B, 0x00, 0x70] = .ok (.ldDdMemNn .sp 0x7000, [])
    ∧ decode [0xED, 0xB0] = .ok (.ldir, [])
    ∧ decode [0xED, 0x77] = .ok (.nopEd 0x77, [])
    ∧ decode [0xDD, 0x09] = .ok (.addXyPp .ix .bc, [])
    ∧ decode [0xDD, 0x7E, 0xFF] = .ok (.ldAXyd .ix 0xFF, [])
    ∧ decode [0xFD, 0x36, 0x02, 0x07] = .ok (.ldXydN .iy 0x02 0x07, [])
    ∧ decode [0xDD, 0x66, 0x05] = .ok (.ldHlXyd .ix .h 0x05, [])
    ∧ decode [0xFD, 0x65] = .ok (.ldRXyh .iy .xh .lo, [])
    ∧ decode [0xDD, 0xCB, 0x03, 0x00] = .ok (.ldRRlcXyd .ix 0x03 .b, [])
    ∧ decode [0xFD, 0xCB, 0x10, 0x47] = .ok (.bitBXyd .iy 0x10 0 7, [])

/-- O5. The fetch window is the bytes at PC, and a step at a leaf is exec of the instruction they decode to. Derived from
30_encoding, 60_exceptions, 20_memory, 10_state. EIdelay at the end of the step is the decision D5 of the spec (R40,
R291) and log 15; reading the window before the fetches is log 7, the draws are D3 and log 4. -/
def Obligations.StepRunsTheDecodedInstruction : Prop :=
  (∀ s : State, s.fetchWindow =
      [s.byteAt s.pc, (s.fetchOps 1).byteAt (s.pc + 1), (s.fetchOps 2).byteAt (s.pc + 2), (s.fetchOps 3).byteAt (s.pc + 3)])
  ∧ (∀ s : State, (∀ a ∈ [s.pc, s.pc + 1, s.pc + 2, s.pc + 3], s.kindAt a ≠ .device) →
      s.fetchWindow = [s.peek s.pc, s.peek (s.pc + 1), s.peek (s.pc + 2), s.peek (s.pc + 3)])
  ∧ (∀ (s : State) (n : Nat), let device := s.kindAt (s.pc + BitVec.ofNat 16 n) = .device
      (s.fetchOps (n + 1)).draws = (s.fetchOps n).draws + (if device then 1 else 0)
        ∧ (s.fetchOps (n + 1)).answers = if device then (s.fetchOps n).answers.tail else (s.fetchOps n).answers)
  ∧ (∀ s : State, s.fetchImm.fetchWindow = s.fetchOp.fetchWindow ∧ s.fetchSubOp.fetchWindow = s.fetchOp.fetchWindow)
  ∧ ∀ (s : State) (i : Instr), Running s → AtLeaf s i →
    ∃ t, exec i (s.fetchOps (opcodeFetches i)) = .next t ∧ step s = .next (t.setEiDelay (i == .ei))

/-- O6. A chain of DD and FD bytes that fall back and the leaf after it are one step. Derived from 30_encoding. That a
prefix chain is one step is the decision D29 of the spec (R90, R290); EIdelay at its end is D5 (R40, R291) and log 15.
No bound is put on the chain (R94; log 8). -/
def Obligations.PrefixChainIsOneStep : Prop :=
  ∀ (s : State) (n : Nat) (i : Instr), Running s → (∀ k, k < n → AtFallback (s.fetchOps k)) →
    AtLeaf (s.fetchOps n) i →
    ∃ t, exec i ((s.fetchOps n).fetchOps (opcodeFetches i)) = .next t ∧ step s = .next (t.setEiDelay (i == .ei))

/-- O7. A step completes wherever the walk comes to a leaf, and a walk that never does is the one fault. Derived from
30_encoding, 60_exceptions. That a prefix chain is one step is the decision D29 of the spec (R90, R290); the fault of
a chain without end is log 8, the choice of the model. -/
def Obligations.EveryStepCompletes : Prop :=
  ∀ s : State, Running s →
    ((∃ t, step s = .next t) ∧ ∃ k, ¬ AtFallback (s.fetchOps k))
      ∨ (step s = .fault .endlessPrefixChain ∧ ∀ k, AtFallback (s.fetchOps k))

/-- O8. Before reset no cell holds a value and every call is refused, and a fault is sticky. Derived from 60_exceptions,
10_state, 70_reset_and_hazards. That nothing has a value or a meaning before reset is the decision D27 of the spec
(R45, R311), that a raw write then sets nothing is log 11; the sticky fault is D13 (R300), and a run that answers it
with T at the budget is log 14. -/
def Obligations.StoppedMachine : Prop :=
  (∀ (mem : Memory) (platform : Platform), let s := construct mem platform
    s.resetDone = false ∧ s.mem = mem ∧ s.platform = platform ∧ s.events = [])
  ∧ (∀ (s : State) (c : RawCell) (p : RawPair) (v : Nat) (w : Word), s.resetDone = false →
    readCell s c = none ∧ readPair s p = none ∧ writeCell s c v = s ∧ writePair s p w = s ∧ (hostReset s).resetDone = true)
  ∧ (∀ (s : State) (budget : Nat), s.resetDone = false →
    step s = .refused .beforeReset ∧ runToBudget budget s = .refused .beforeReset ∧ interrupt s = .refused .beforeReset)
    ∧ ∀ (s : State) (r : Fault) (budget : Nat), s.resetDone = true → s.faulted = some r →
        step s = .fault r ∧ runToBudget budget s = .fault r ∧ interrupt s = .fault r s

/-- O9. A halted step charges one contended fetch, bumps R, clears EIdelay, and does nothing else. Derived from
60_exceptions. What a halted step does is the decision D17 of the spec (R288). -/
def Obligations.HaltedIdleStep : Prop :=
  ∀ s : State, s.resetDone = true → s.faulted = none → s.halted = true →
    ∃ t, step s = .next t ∧ t.rLow = s.rLow + 1 ∧ t.rB7 = s.rB7 ∧ t.eiDelay = false ∧ t.pc = s.pc
      ∧ s.t + 4 ≤ t.t ∧ (s.platform.contended = false → t.t = s.t + 4)
      ∧ SameCellsBut [.r] s t ∧ t.mem = s.mem ∧ t.scr = s.scr ∧ t.events = s.events ∧ t.draws = s.draws
      ∧ t.faulted = none ∧ t.resetDone = true ∧ t.platform = s.platform

/-- O10. Fetch() returns the byte at PC; n fetches move PC by n, R.low by n modulo 128, T by 4n, and nothing else. Rule
R71. -/
def Obligations.OpcodeFetches : Prop :=
  ∀ (s : State) (n : Nat),
    (s.fetchOps n).fetchWindow.head? = some ((s.fetchOps n).byteAt (s.pc + BitVec.ofNat 16 n))
      ∧ (s.kindAt (s.pc + BitVec.ofNat 16 n) ≠ .device →
          (s.fetchOps n).byteAt (s.pc + BitVec.ofNat 16 n) = s.peek (s.pc + BitVec.ofNat 16 n))
      ∧ (s.fetchOps n).pc = s.pc + BitVec.ofNat 16 n ∧ (s.fetchOps n).rLow = s.rLow + BitVec.ofNat 7 n
      ∧ (s.fetchOps n).rB7 = s.rB7 ∧ s.t + 4 * n ≤ (s.fetchOps n).t
      ∧ (s.platform.contended = false → (s.fetchOps n).t = s.t + 4 * n)
      ∧ SameCellsBut [.r] s (s.fetchOps n) ∧ (s.fetchOps n).mem = s.mem ∧ (s.fetchOps n).scr = s.scr
      ∧ (s.fetchOps n).eiDelay = s.eiDelay ∧ (s.fetchOps n).events = s.events
      ∧ (s.fetchOps n).platform = s.platform

/-- O11. A step adds at least 4 to T, and with no contention the base total of the path taken. Derived from
70_reset_and_hazards. T as an unbounded number and the open contention are the decision D12 of the spec (R318); that a
prefix chain is one step is D29 (R90). -/
def Obligations.StepTiming : Prop :=
  (∀ s t : State, step s = .next t → s.t + 4 ≤ t.t)
    ∧ ∀ (s t : State) (n : Nat) (i : Instr), Running s → s.platform.contended = false →
        (∀ k, k < n → AtFallback (s.fetchOps k)) → AtLeaf (s.fetchOps n) i → step s = .next t →
        t.t = s.t + 4 * n + baseT i ((s.fetchOps n).fetchOps (opcodeFetches i))

/-- O12. An instruction that is no transfer leaves PC after its last byte. Derived from 30_encoding, 10_state. -/
def Obligations.PcAdvancesByTheLength : Prop :=
  ∀ (s : State) (i : Instr), Running s → AtLeaf s i → movesPc i = false →
    ∃ t, step s = .next t ∧ t.pc = s.pc + BitVec.ofNat 16 (encode i).length

/-- O13. R moves by the fetches alone: no rule but LD R,A writes it. Derived from 46_io_cpu_control. Which fetches advance
R is the decision D18 of the spec (R91). -/
def Obligations.RefreshCounter : Prop :=
  (∀ (i : Instr) (s t : State), i ≠ .ldRA → exec i s = .next t → t.rLow = s.rLow ∧ t.rB7 = s.rB7)
    ∧ (∀ (s : State) (i : Instr), Running s → AtLeaf s i → i ≠ .ldRA →
        ∃ t, step s = .next t ∧ t.rLow = s.rLow + BitVec.ofNat 7 (opcodeFetches i) ∧ t.rB7 = s.rB7)
    ∧ ∀ s t : State, interrupt s = .accepted t → t.rLow = s.rLow + 1 ∧ t.rB7 = s.rB7

/-- O14. The invariant holds right after reset. Derived from 10_state. -/
def Obligations.InvAtReset : Prop :=
  Inv State.reset ∧ ∀ s : State, s.mem.wf = true → Inv (hostReset s)

/-- O15. Every step keeps canonical memory, a legal interrupt mode and equal flip-flops. Derived from 46_io_cpu_control,
10_state, 20_memory. -/
def Obligations.StepKeepsInv : Prop :=
  ∀ s t : State, Inv s → step s = .next t → Inv t

/-- O16. An accepted or declined interrupt keeps the invariant, and never ends in a fault from it. Derived from
60_exceptions, 46_io_cpu_control. -/
def Obligations.InterruptKeepsInv : Prop :=
  ∀ s : State, Inv s → s.resetDone = true → s.faulted = none →
    interrupt s = .declined s ∨ ∃ t, interrupt s = .accepted t ∧ Inv t

/-- O17. A run ends at or past its budget, and a budget of T + 1 is exactly one step. Derived from 60_exceptions,
70_reset_and_hazards. The loop is the decision D28 of the spec (R295) and log 14; the fault of a chain without end is
log 8, the choice of the model. -/
def Obligations.RunToBudget : Prop :=
  (∀ (budget : Nat) (s t : State), runToBudget budget s = .next t → budget ≤ t.t)
    ∧ (∀ (budget : Nat) (s : State), s.resetDone = true → s.faulted = none → budget ≤ s.t → runToBudget budget s = .next s)
    ∧ (∀ s : State, runToBudget (s.t + 1) s = step s)
    ∧ ∀ (budget : Nat) (s : State), s.resetDone = true → s.faulted = none →
        (∃ t, runToBudget budget s = .next t) ∨ runToBudget budget s = .fault .endlessPrefixChain

/-- O18. A pair is its two halves: what is written to either is read from the other at once. Rule R23. -/
def Obligations.PairsAreTheirHalves : Prop :=
  ∀ (s : State) (p : RawPair) (v : Word),
    (s.rawReadPair p).toNat = s.rawRead (pairCells p).1 * 256 + s.rawRead (pairCells p).2
      ∧ (s.rawWritePair p v).rawReadPair p = v
      ∧ (s.rawWritePair p v).rawRead (pairCells p).1 = v.toNat / 256
      ∧ (s.rawWritePair p v).rawRead (pairCells p).2 = v.toNat % 256
      ∧ ∀ c : RawCell, c ≠ (pairCells p).1 → c ≠ (pairCells p).2 → (s.rawWritePair p v).rawRead c = s.rawRead c

/-- O19. A raw write of a cell is read back, and nothing else of the state changes. Derived from 10_state. The accessors
are the decision D28 of the spec (R46); that IM takes any natural number is log 16, the choice of the model. -/
def Obligations.RawAccessors : Prop :=
  ∀ (s : State) (c : RawCell) (v : Nat), (∀ b, cellBound c = some b → v < b) →
    (s.rawWrite c v).rawRead c = v ∧ (∀ c' : RawCell, c' ≠ c → (s.rawWrite c v).rawRead c' = s.rawRead c')
      ∧ (s.rawWrite c v).mem = s.mem ∧ (s.rawWrite c v).scr = s.scr ∧ (s.rawWrite c v).eiDelay = s.eiDelay
      ∧ (s.rawWrite c v).faulted = s.faulted ∧ (s.rawWrite c v).platform = s.platform
      ∧ (s.rawWrite c v).resetDone = s.resetDone ∧ (s.rawWrite c v).events = s.events
      ∧ (s.rawWrite c v).draws = s.draws ∧ (s.rawWrite c v).answers = s.answers
      ∧ (s.resetDone = true → readCell (writeCell s c v) c = some v ∧ writeCell s c v = s.rawWrite c v
          ∧ readCell s c = some (s.rawRead c))

/-- O20. reset() puts every cell at 0 and leaves memory, the port log and the platform. Derived from 70_reset_and_hazards,
10_state. T, EIdelay, SCR and the fault at 0 are the decision D11 of the spec (R310); what reset() leaves of the draws
and the platform is log 9. -/
def Obligations.ResetValues : Prop :=
  ∀ s : State, (∀ c : RawCell, (hostReset s).rawRead c = 0) ∧ (hostReset s).scr = 0 ∧ (hostReset s).eiDelay = false
    ∧ (hostReset s).faulted = none ∧ (hostReset s).resetDone = true ∧ (hostReset s).mem = s.mem
    ∧ (hostReset s).events = s.events ∧ (hostReset s).platform = s.platform
    ∧ (hostReset s).draws = s.draws ∧ (hostReset s).answers = s.answers

/-- O21. Reads and writes of memory: the write policy, the order of bytes, device reads as draws, the debug access.
Derived from 20_memory. The memory map as data is log 2, a device write that keeps the contents log 3, the draws and
answers log 4: choices of the model under the decisions D3 and D4 of the spec. The order of bytes is D2 and D19. -/
def Obligations.MemoryAccesses : Prop :=
  (∀ (s : State) (a b : Word) (v : Byte), s.mem.wf = true →
    Stored s (s.memWrite a v) a v ∧ (b ≠ a → (s.memWrite a v).peek b = s.peek b))
    ∧ (∀ (s : State) (a v : Word), s.mem.wf = true → s.kindAt a = .ram → s.kindAt (a + 1) = .ram →
        (s.writeWord a v).readWord a = v ∧ (s.writeWord a v).byteAt a = BitVec.ofNat 8 v.toNat
          ∧ (s.writeWord a v).byteAt (a + 1) = BitVec.ofNat 8 (v.toNat / 256))
    ∧ (∀ (s : State) (a : Word), s.kindAt a ≠ .device →
        s.byteAt a = s.peek a ∧ (s.afterRead a).draws = s.draws ∧ (s.afterRead a).answers = s.answers)
    ∧ (∀ (s : State) (a b : Word) (v : Byte), s.mem.wf = true →
        (s.debugWrite a v).peek b = (if b = a then v else s.peek b)
          ∧ (s.debugWrite a v).mem.wf = true ∧ { s.debugWrite a v with mem := s.mem } = s)
    ∧ ∀ (s : State) (a : Word), s.kindAt a = .device →
        s.byteAt a = s.answers.headD (Config.deviceByte s.draws a) ∧ (s.afterRead a).draws = s.draws + 1
          ∧ (s.afterRead a).answers = s.answers.tail ∧ (s.afterRead a).mem = s.mem

/-- O22. With IFF1 = 0 or EIdelay = 1 an interrupt is declined with no state change. Derived from 60_exceptions, 10_state.
The shadow of EI as the latch EIdelay is the decision D5 of the spec (R282). -/
def Obligations.InterruptDeclined : Prop :=
  ∀ s : State, s.resetDone = true → s.faulted = none → (interrupt s = .declined s ↔ s.iff1 = false ∨ s.eiDelay = true)

/-- O23. Acceptance pushes the return address, clears the flip-flops and goes to the vector of IM 0, 1 and 2. Derived from
60_exceptions. That the 7 T-states are charged beside the stack writes is the reading C2 of the spec (R287). -/
def Obligations.InterruptAcceptance : Prop :=
  ∀ s : State, s.resetDone = true → s.faulted = none → s.iff1 = true → s.eiDelay = false → s.im ≤ 2 → s.mem.wf = true →
    ∃ t, interrupt s = .accepted t
      ∧ StoredWord s t (s.sp - 2) (if s.halted then s.pc + 1 else s.pc)
      ∧ t.sp = s.sp - 2 ∧ t.iff1 = false ∧ t.iff2 = false ∧ t.halted = false ∧ t.rLow = s.rLow + 1 ∧ t.rB7 = s.rB7
      ∧ (s.im ≤ 1 → t.pc = 0x0038)
      ∧ (s.im = 2 → s.kindAt (mkWord s.i 0xFF) ≠ .device → s.kindAt (mkWord s.i 0xFF + 1) ≠ .device →
          t.pc.toNat = (t.peek (mkWord s.i 0xFF + 1)).toNat * 256 + (t.peek (mkWord s.i 0xFF)).toNat)
      ∧ (s.im = 2 → t.pc = s.interruptEntry.readWord (mkWord s.i 0xFF))
      ∧ (s.platform.contended = false → t.t = s.t + if s.im = 2 then 19 else 13)
      ∧ SameCellsBut [.sp, .iff1, .iff2, .halted, .r] s t ∧ SameMemoryBut [s.sp - 1, s.sp - 2] s t
      ∧ t.scr = s.scr ∧ t.eiDelay = s.eiDelay ∧ t.events = s.events ∧ t.faulted = none

/-- O24. An IM outside 0, 1, 2 faults at acceptance, after the push, and the fault sticks. Derived from 60_exceptions.
Where the mode is looked at, and that the fault sticks, are the decisions D15 and D13 of the spec (R286, R300). -/
def Obligations.InterruptBadMode : Prop :=
  ∀ s : State, s.resetDone = true → s.faulted = none → s.iff1 = true → s.eiDelay = false → 2 < s.im → s.mem.wf = true →
    ∃ t, interrupt s = .fault (.badInterruptMode s.im) t ∧ t.faulted = some (.badInterruptMode s.im)
      ∧ t.sp = s.sp - 2 ∧ StoredWord s t (s.sp - 2) (if s.halted then s.pc + 1 else s.pc)
      ∧ t.iff1 = false ∧ t.iff2 = false ∧ step t = .fault (.badInterruptMode s.im)

/-- O25. HALT holds PC on its own opcode, and an accepted interrupt returns to the instruction after it. Derived from
46_io_cpu_control, 60_exceptions, 44_control. RETI is the decision D24 of the spec (R222), and EIdelay at the end of
the step D5. -/
def Obligations.HaltWaitsForTheInterrupt : Prop :=
  ∀ s : State, Running s → AtLeaf s .halt → s.iff1 = true → s.im = 1 → s.mem.wf = true →
    s.kindAt (s.sp - 1) = .ram → s.kindAt (s.sp - 2) = .ram →
    ∃ t u v, step s = .next t ∧ t.halted = true ∧ t.pc = s.pc ∧ interrupt t = .accepted u ∧ u.pc = 0x0038
      ∧ exec .reti u = .next v ∧ v.pc = s.pc + 1 ∧ v.sp = s.sp ∧ v.iff1 = false ∧ v.halted = false

/-- O26. LD r,r' and LD r,n with the XYH/XYL forms: the destination takes the source or the immediate. Rules R111, R112. -/
def Obligations.LoadsOfRegisters : Prop :=
  (∀ (r q : R8) (s : State), ∃ t, exec (.ldRR r q) s = .next t ∧ FrameAndCost (.ldRR r q) s t ∧ t.r8 r = s.r8 q)
    ∧ (∀ (xy : XY) (r : XReg) (h : Half) (s : State), ∃ t, exec (.ldRXyh xy r h) s = .next t
        ∧ FrameAndCost (.ldRXyh xy r h) s t ∧ t.rawRead (xregCell xy r) = (s.half xy h).toNat)
    ∧ (∀ (xy : XY) (h : Half) (r : R8) (s : State), ∃ t, exec (.ldXyhR xy h r) s = .next t
        ∧ FrameAndCost (.ldXyhR xy h r) s t ∧ t.half xy h = s.r8 r)
    ∧ (∀ (xy : XY) (h : Half) (s : State), ∃ t, exec (.ldXyhA xy h) s = .next t
        ∧ FrameAndCost (.ldXyhA xy h) s t ∧ t.half xy h = s.main.a)
    ∧ (∀ (r : R8) (n : Byte) (s : State), ∃ t, exec (.ldRN r n) s = .next t ∧ FrameAndCost (.ldRN r n) s t ∧ t.r8 r = n)
    ∧ ∀ (xy : XY) (h : Half) (n : Byte) (s : State), ∃ t, exec (.ldXyhN xy h n) s = .next t
        ∧ FrameAndCost (.ldXyhN xy h n) s t ∧ t.half xy h = n

/-- O27. LD r,(HL), LD r,(XY+d), LD A,(rr), LD A,(nn): the register takes the byte at the address. Rules R113, R116, R118. -/
def Obligations.LoadsOfBytesFromMemory : Prop :=
  (∀ (r : R8) (s : State), ∃ t, exec (.ldRMemHl r) s = .next t ∧ FrameAndCost (.ldRMemHl r) s t ∧ t.r8 r = s.byteAt s.hl)
    ∧ (∀ (xy : XY) (r : R8) (d : Byte) (s : State),
        (∃ t, exec (.ldRXyd xy r d) s = .next t ∧ FrameAndCost (.ldRXyd xy r d) s t
          ∧ t.r8 r = s.fetchDisp.byteAt (s.xy xy + d.signExtend 16))
        ∧ (∃ t, exec (.ldHlXyd xy r d) s = .next t ∧ FrameAndCost (.ldHlXyd xy r d) s t
          ∧ t.r8 r = s.fetchDisp.byteAt (s.xy xy + d.signExtend 16))
        ∧ ∃ t, exec (.ldAXyd xy d) s = .next t ∧ FrameAndCost (.ldAXyd xy d) s t
          ∧ t.main.a = s.fetchDisp.byteAt (s.xy xy + d.signExtend 16))
    ∧ (∀ (rr : RR) (s : State), ∃ t, exec (.ldAMemRr rr) s = .next t ∧ FrameAndCost (.ldAMemRr rr) s t
        ∧ t.main.a = s.byteAt (match rr with | .bc => s.bc | .de => s.de))
    ∧ ∀ (nn : Word) (s : State), ∃ t, exec (.ldAMemNn nn) s = .next t ∧ FrameAndCost (.ldAMemNn nn) s t
        ∧ t.main.a = s.fetchImm2.byteAt nn

/-- O28. LD (HL),r, LD (XY+d),r, LD (HL),n, LD (XY+d),n, LD (rr),A, LD (nn),A store their byte. Rules R114, R115, R117,
R119. -/
def Obligations.StoresOfBytes : Prop :=
  ∀ s : State, s.mem.wf = true →
    (∀ r : R8, ∃ t, exec (.ldMemHlR r) s = .next t ∧ FrameAndCost (.ldMemHlR r) s t ∧ Stored s t s.hl (s.r8 r))
      ∧ (∀ (xy : XY) (r : R8) (d : Byte),
          (∃ t, exec (.ldXydR xy r d) s = .next t ∧ FrameAndCost (.ldXydR xy r d) s t
            ∧ Stored s t (s.xy xy + d.signExtend 16) (s.r8 r))
          ∧ (∃ t, exec (.ldXydHl xy r d) s = .next t ∧ FrameAndCost (.ldXydHl xy r d) s t
            ∧ Stored s t (s.xy xy + d.signExtend 16) (s.r8 r))
          ∧ ∃ t, exec (.ldXydA xy d) s = .next t ∧ FrameAndCost (.ldXydA xy d) s t
            ∧ Stored s t (s.xy xy + d.signExtend 16) s.main.a)
      ∧ (∀ n : Byte, ∃ t, exec (.ldMemHlN n) s = .next t ∧ FrameAndCost (.ldMemHlN n) s t ∧ Stored s t s.hl n)
      ∧ (∀ (xy : XY) (d n : Byte), ∃ t, exec (.ldXydN xy d n) s = .next t ∧ FrameAndCost (.ldXydN xy d n) s t
          ∧ Stored s t (s.xy xy + d.signExtend 16) n)
      ∧ (∀ rr : RR, ∃ t, exec (.ldMemRrA rr) s = .next t ∧ FrameAndCost (.ldMemRrA rr) s t
          ∧ Stored s t (match rr with | .bc => s.bc | .de => s.de) s.main.a)
      ∧ ∀ nn : Word, ∃ t, exec (.ldMemNnA nn) s = .next t ∧ FrameAndCost (.ldMemNnA nn) s t ∧ Stored s t nn s.main.a

/-- O29. The 16-bit loads: an immediate, the word at nn low byte first, or SP from HL or XY. Rules R120, R122, R124, R128. -/
def Obligations.LoadsOfWords : Prop :=
  (∀ (dd : RP) (nn : Word) (s : State), ∃ t, exec (.ldDdNn dd nn) s = .next t ∧ FrameAndCost (.ldDdNn dd nn) s t ∧ t.rp dd = nn)
    ∧ (∀ (xy : XY) (nn : Word) (s : State), ∃ t, exec (.ldXyNn xy nn) s = .next t ∧ FrameAndCost (.ldXyNn xy nn) s t
        ∧ t.xy xy = nn)
    ∧ (∀ (nn : Word) (s : State),
        let lo := s.fetchImm2.byteAt nn
        let hi := (s.fetchImm2.afterRead nn).byteAt (nn + 1)
        (∃ t, exec (.ldHlMemNn nn) s = .next t ∧ FrameAndCost (.ldHlMemNn nn) s t ∧ t.main.h = hi ∧ t.main.l = lo)
        ∧ (∀ xy : XY, ∃ t, exec (.ldXyMemNn xy nn) s = .next t ∧ FrameAndCost (.ldXyMemNn xy nn) s t
            ∧ t.half xy .hi = hi ∧ t.half xy .lo = lo)
        ∧ ∀ dd : RP, ∃ t, exec (.ldDdMemNn dd nn) s = .next t ∧ FrameAndCost (.ldDdMemNn dd nn) s t
            ∧ (t.rp dd).toNat = hi.toNat * 256 + lo.toNat)
    ∧ ∀ s : State, (∃ t, exec .ldSpHl s = .next t ∧ FrameAndCost .ldSpHl s t ∧ t.sp = s.hl)
        ∧ ∀ xy : XY, ∃ t, exec (.ldSpXy xy) s = .next t ∧ FrameAndCost (.ldSpXy xy) s t ∧ t.sp = s.xy xy

/-- O30. LD (nn),HL, LD (nn),XY and LD (nn),dd store the low byte at nn and the high byte at nn + 1. Rules R123, R125. -/
def Obligations.StoresOfWords : Prop :=
  ∀ (nn : Word) (s : State), s.mem.wf = true →
    (∃ t, exec (.ldMemNnHl nn) s = .next t ∧ FrameAndCost (.ldMemNnHl nn) s t ∧ StoredWord s t nn s.hl)
      ∧ (∀ xy : XY, ∃ t, exec (.ldMemNnXy xy nn) s = .next t ∧ FrameAndCost (.ldMemNnXy xy nn) s t
          ∧ StoredWord s t nn (s.xy xy))
      ∧ ∀ dd : RP, ∃ t, exec (.ldMemNnDd dd nn) s = .next t ∧ FrameAndCost (.ldMemNnDd dd nn) s t
          ∧ StoredWord s t nn (s.rp dd)

/-- O31. PUSH stores the pair below SP high byte first, POP reads it back with SP two higher. Rules R126, R127. -/
def Obligations.PushAndPop : Prop :=
  (∀ s : State, s.mem.wf = true →
    (∀ qq : RP2, ∃ t, exec (.pushQq qq) s = .next t ∧ FrameAndCost (.pushQq qq) s t ∧ t.sp = s.sp - 2
      ∧ Stored s t (s.sp - 1) (hiByte (s.rp2 qq)) ∧ Stored s t (s.sp - 2) (loByte (s.rp2 qq)))
    ∧ ∀ xy : XY, ∃ t, exec (.pushXy xy) s = .next t ∧ FrameAndCost (.pushXy xy) s t ∧ t.sp = s.sp - 2
      ∧ Stored s t (s.sp - 1) (s.half xy .hi) ∧ Stored s t (s.sp - 2) (s.half xy .lo))
    ∧ ∀ s : State,
        let lo := s.byteAt s.sp
        let hi := (s.afterRead s.sp).byteAt (s.sp + 1)
        (∀ qq : RP2, ∃ t, exec (.popQq qq) s = .next t ∧ FrameAndCost (.popQq qq) s t ∧ t.sp = s.sp + 2
          ∧ hiByte (t.rp2 qq) = hi ∧ loByte (t.rp2 qq) = lo)
        ∧ ∀ xy : XY, ∃ t, exec (.popXy xy) s = .next t ∧ FrameAndCost (.popXy xy) s t ∧ t.sp = s.sp + 2
          ∧ t.half xy .hi = hi ∧ t.half xy .lo = lo

/-- O32. EX (SP) swaps the pair with the word at SP; POP undoes PUSH, and RET returns after the CALL. Derived from
20_memory, 40_load_exchange, 44_control. The order of the two reads of EX (SP) is the decision D19 of the spec. -/
def Obligations.StackExchangeAndRoundTrips : Prop :=
  (∀ s : State, s.mem.wf = true →
    let lo := s.byteAt s.sp
    let hi := (s.afterRead s.sp).byteAt (s.sp + 1)
    (∃ t, exec .exSpHl s = .next t ∧ FrameAndCost .exSpHl s t ∧ StoredWord s t s.sp s.hl
      ∧ t.main.h = hi ∧ t.main.l = lo ∧ t.sp = s.sp)
    ∧ ∀ xy : XY, ∃ t, exec (.exSpXy xy) s = .next t ∧ FrameAndCost (.exSpXy xy) s t ∧ StoredWord s t s.sp (s.xy xy)
      ∧ t.half xy .hi = hi ∧ t.half xy .lo = lo ∧ t.sp = s.sp)
  ∧ ∀ s : State, s.mem.wf = true → s.kindAt (s.sp - 1) = .ram → s.kindAt (s.sp - 2) = .ram →
    (∀ qq qq' : RP2, ∃ t u, exec (.pushQq qq) s = .next t ∧ exec (.popQq qq') t = .next u
      ∧ u.rp2 qq' = s.rp2 qq ∧ u.sp = s.sp)
    ∧ ∀ nn : Word, ∃ t u, exec (.callNn nn) s = .next t ∧ t.pc = nn ∧ exec .ret t = .next u
      ∧ u.pc = s.pc + 2 ∧ u.sp = s.sp

/-- O33. EX DE,HL, EX AF,AF' and EXX swap what they name and nothing else. Rules R129, R130, R131. -/
def Obligations.Exchanges : Prop :=
  (∀ s : State, ∃ t, exec .exDeHl s = .next t ∧ FrameAndCost .exDeHl s t ∧ t.de = s.hl ∧ t.hl = s.de)
    ∧ (∀ s : State, ∃ t, exec .exAfAf s = .next t ∧ FrameAndCost .exAfAf s t
        ∧ t.main.a = s.shadow.a ∧ t.main.f = s.shadow.f ∧ t.shadow.a = s.main.a ∧ t.shadow.f = s.main.f)
    ∧ ∀ s : State, ∃ t, exec .exx s = .next t ∧ FrameAndCost .exx s t
        ∧ t.bc = s.rawReadPair .shadowBc ∧ t.de = s.rawReadPair .shadowDe ∧ t.hl = s.rawReadPair .shadowHl
        ∧ t.rawReadPair .shadowBc = s.bc ∧ t.rawReadPair .shadowDe = s.de ∧ t.rawReadPair .shadowHl = s.hl

/-- O34. The 8-bit source operand: a register, a half, the immediate, the byte at HL or at XY + d. Derived from 41_alu8. -/
def Obligations.SourceOperands : Prop :=
  ∀ s : State, (∀ r : R8, s.sourceVal (.reg r) = s.r8 r) ∧ (∀ (xy : XY) (h : Half), s.sourceVal (.half xy h) = s.half xy h)
    ∧ (∀ n : Byte, s.sourceVal (.imm n) = n) ∧ s.sourceVal .memHl = s.byteAt s.hl
    ∧ (s.kindAt s.hl ≠ .device → s.sourceVal .memHl = s.peek s.hl)
    ∧ ∀ (xy : XY) (d : Byte), s.kindAt (s.xy xy + d.signExtend 16) ≠ .device →
        s.sourceVal (.memXyd xy d) = s.peek (s.xy xy + d.signExtend 16)

/-- O35. ADD A,s and ADC A,s: the sum modulo 256 and all eight flags by arithmetic, for every source. Rules R149, R151,
R152. -/
def Obligations.AddAndAdc : Prop :=
  ∀ (src : Source) (s : State),
    (∃ t, exec (aluForm .add src) s = .next t ∧ FrameAndCost (aluForm .add src) s t
      ∧ t.main.a.toNat = (s.main.a.toNat + (s.sourceVal src).toNat) % 256
      ∧ flagBits t.f = addFlags s.main.a (s.sourceVal src) 0 t.main.a)
    ∧ ∃ t, exec (aluForm .adc src) s = .next t ∧ FrameAndCost (aluForm .adc src) s t
      ∧ t.main.a.toNat = (s.main.a.toNat + (s.sourceVal src).toNat + carryNat s) % 256
      ∧ flagBits t.f = addFlags s.main.a (s.sourceVal src) (carryNat s) t.main.a

/-- O36. SUB s, SBC A,s, CP s and NEG: the difference modulo 256 and all eight flags by arithmetic. Rules R150, R153,
R154, R158, R163. -/
def Obligations.SubSbcCpAndNeg : Prop :=
  ∀ (src : Source) (s : State),
    (∃ t, exec (aluForm .sub src) s = .next t ∧ FrameAndCost (aluForm .sub src) s t
      ∧ t.main.a.toNat = (s.main.a.toNat + 256 - (s.sourceVal src).toNat) % 256
      ∧ flagBits t.f = subFlags s.main.a (s.sourceVal src) 0 t.main.a)
    ∧ (∃ t, exec (aluForm .sbc src) s = .next t ∧ FrameAndCost (aluForm .sbc src) s t
      ∧ t.main.a.toNat = (s.main.a.toNat + 512 - (s.sourceVal src).toNat - carryNat s) % 256
      ∧ flagBits t.f = subFlags s.main.a (s.sourceVal src) (carryNat s) t.main.a)
    ∧ (∃ t, exec (aluForm .cp src) s = .next t ∧ FrameAndCost (aluForm .cp src) s t ∧ t.main.a = s.main.a
      ∧ flagBits t.f =
          { subFlags s.main.a (s.sourceVal src) 0 (s.main.a - s.sourceVal src) with
            x5 := (s.sourceVal src).getLsbD 5
            x3 := (s.sourceVal src).getLsbD 3 })
    ∧ ∀ y : BitVec 3, ∃ t, exec (.neg y) s = .next t ∧ FrameAndCost (.neg y) s t
      ∧ t.main.a.toNat = (256 - s.main.a.toNat) % 256 ∧ flagBits t.f = subFlags 0 s.main.a 0 t.main.a

/-- O37. AND, XOR and OR: the result in A, PV its parity, C and N 0, H 1 for AND alone; CPL complements A. Rules R155,
R156, R157, R162. -/
def Obligations.AndXorOrAndCpl : Prop :=
  ∀ (src : Source) (s : State),
    (∃ t, exec (aluForm .and src) s = .next t ∧ FrameAndCost (aluForm .and src) s t
      ∧ t.main.a = s.main.a &&& s.sourceVal src ∧ flagBits t.f = parityFlags t.main.a true false)
    ∧ (∃ t, exec (aluForm .xor src) s = .next t ∧ FrameAndCost (aluForm .xor src) s t
      ∧ t.main.a = s.main.a ^^^ s.sourceVal src ∧ flagBits t.f = parityFlags t.main.a false false)
    ∧ (∃ t, exec (aluForm .or src) s = .next t ∧ FrameAndCost (aluForm .or src) s t
      ∧ t.main.a = s.main.a ||| s.sourceVal src ∧ flagBits t.f = parityFlags t.main.a false false)
    ∧ ∃ t, exec .cpl s = .next t ∧ FrameAndCost .cpl s t ∧ t.main.a = ~~~s.main.a
      ∧ flagBits t.f = { flagBits s.f with x5 := t.main.a.getLsbD 5, h := true, x3 := t.main.a.getLsbD 3, n := true }

/-- O38. INC m and DEC m: the operand one higher or lower, C kept, the other flags by the boundary values. Rules R159,
R160. -/
def Obligations.IncAndDec : Prop :=
  ∀ (m : Source) (s : State), s.mem.wf = true →
    let v := s.sourceVal m
    let written := fun (t : State) (res : Byte) =>
      match m with
      | .reg r => t.r8 r = res
      | .half xy h => t.half xy h = res
      | .memHl => Stored s t s.hl res
      | .memXyd xy d => Stored s t (s.xy xy + d.signExtend 16) res
      | .imm _ => True
    (∀ i, incForm m = some i → ∃ t, exec i s = .next t ∧ FrameAndCost i s t ∧ written t (v + 1)
      ∧ flagBits t.f =
          { s := (v + 1).getLsbD 7, z := v == 0xFF, x5 := (v + 1).getLsbD 5, h := v.toNat % 16 == 15,
            x3 := (v + 1).getLsbD 3, pv := v == 0x7F, n := false, c := s.f.getLsbD 0 })
    ∧ ∀ i, decForm m = some i → ∃ t, exec i s = .next t ∧ FrameAndCost i s t ∧ written t (v - 1)
      ∧ flagBits t.f =
          { s := (v - 1).getLsbD 7, z := v == 0x01, x5 := (v - 1).getLsbD 5, h := v.toNat % 16 == 0,
            x3 := (v - 1).getLsbD 3, pv := v == 0x80, n := true, c := s.f.getLsbD 0 }

/-- O39. DAA, CCF and SCF: A and every flag. Derived from 41_alu8. These are the decisions D21 and D22 of the spec (R161,
R164, R165). -/
def Obligations.DecimalAdjustAndCarry : Prop :=
  ∀ s : State,
    (let low := s.f.getLsbD 4 || decide (9 < s.main.a.toNat % 16)
     let high := s.f.getLsbD 0 || decide (0x99 < s.main.a.toNat)
     let corr := (if low then 6 else 0) + (if high then 0x60 else 0)
     ∃ t, exec .daa s = .next t ∧ FrameAndCost .daa s t
      ∧ t.main.a.toNat = (if s.f.getLsbD 1 then s.main.a.toNat + 256 - corr else s.main.a.toNat + corr) % 256
      ∧ flagBits t.f =
          { s := t.main.a.getLsbD 7, z := t.main.a == 0, x5 := t.main.a.getLsbD 5
            h := if s.f.getLsbD 1 then decide (s.main.a.toNat % 16 < corr % 16)
              else decide (16 ≤ s.main.a.toNat % 16 + corr % 16)
            x3 := t.main.a.getLsbD 3, pv := evenParity t.main.a, n := s.f.getLsbD 1, c := high })
    ∧ (∃ t, exec .ccf s = .next t ∧ FrameAndCost .ccf s t
      ∧ flagBits t.f = { flagBits s.f with
          x5 := s.main.a.getLsbD 5, h := s.f.getLsbD 0, x3 := s.main.a.getLsbD 3, n := false, c := !s.f.getLsbD 0 })
    ∧ ∃ t, exec .scf s = .next t ∧ FrameAndCost .scf s t
      ∧ flagBits t.f = { flagBits s.f with
          x5 := s.main.a.getLsbD 5, h := false, x3 := s.main.a.getLsbD 3, n := false, c := true }

/-- O40. DAA after a decimal addition or subtraction is decimal, and SUB b undoes ADD A,b. Derived from 41_alu8. -/
def Obligations.LawsOfArithmetic : Prop :=
  (∀ (x y : Nat) (s : State), x < 100 → y < 100 → s.main.a = BitVec.ofNat 8 (x / 10 * 16 + x % 10) →
    (∃ t u, exec (.addAN (BitVec.ofNat 8 (y / 10 * 16 + y % 10))) s = .next t ∧ exec .daa t = .next u
      ∧ u.main.a = BitVec.ofNat 8 ((x + y) % 100 / 10 * 16 + (x + y) % 10) ∧ (flagBits u.f).c = decide (100 ≤ x + y))
    ∧ ∃ t u, exec (.subN (BitVec.ofNat 8 (y / 10 * 16 + y % 10))) s = .next t ∧ exec .daa t = .next u
      ∧ u.main.a = BitVec.ofNat 8 ((x + 100 - y) % 100 / 10 * 16 + (x + 100 - y) % 10)
      ∧ (flagBits u.f).c = decide (x < y))
    ∧ ∀ (b : Byte) (s : State), ∃ t u, exec (.addAN b) s = .next t ∧ exec (.subN b) t = .next u
      ∧ u.main.a = s.main.a ∧ (flagBits u.f).c = (flagBits t.f).c ∧ (flagBits u.f).h = (flagBits t.f).h

/-- O41. ADD HL,ss, ADD XY,pp, INC and DEC of a pair: the result modulo 2^16 and the flags. Rules R171, R174, R175. -/
def Obligations.AddIncAndDecOfPairs : Prop :=
  ∀ s : State,
    let ok := fun (p v res : Word) (t : State) =>
      res.toNat = (p.toNat + v.toNat) % 65536
        ∧ flagBits t.f = { flagBits s.f with
            x5 := res.getLsbD 13, h := decide (4096 ≤ p.toNat % 4096 + v.toNat % 4096), x3 := res.getLsbD 11, n := false,
            c := decide (65536 ≤ p.toNat + v.toNat) }
    (∀ ss : RP, ∃ t, exec (.addHlSs ss) s = .next t ∧ FrameAndCost (.addHlSs ss) s t ∧ ok s.hl (s.rp ss) t.hl t)
    ∧ (∀ (xy : XY) (pp : PP), ∃ t, exec (.addXyPp xy pp) s = .next t ∧ FrameAndCost (.addXyPp xy pp) s t
      ∧ ok (s.xy xy) (match pp with | .bc => s.bc | .de => s.de | .xy => s.xy xy | .sp => s.sp) (t.xy xy) t)
    ∧ (∀ ss : RP, (∃ t, exec (.incSs ss) s = .next t ∧ FrameAndCost (.incSs ss) s t ∧ t.rp ss = s.rp ss + 1 ∧ t.f = s.f)
      ∧ ∃ t, exec (.decSs ss) s = .next t ∧ FrameAndCost (.decSs ss) s t ∧ t.rp ss = s.rp ss - 1 ∧ t.f = s.f)
    ∧ ∀ xy : XY, (∃ t, exec (.incXy xy) s = .next t ∧ FrameAndCost (.incXy xy) s t ∧ t.xy xy = s.xy xy + 1 ∧ t.f = s.f)
      ∧ ∃ t, exec (.decXy xy) s = .next t ∧ FrameAndCost (.decXy xy) s t ∧ t.xy xy = s.xy xy - 1 ∧ t.f = s.f

/-- O42. ADC HL,ss and SBC HL,ss: the 16-bit result with carry, and all eight flags by arithmetic. Rules R172, R173. -/
def Obligations.AdcAndSbcOfPairs : Prop :=
  ∀ (ss : RP) (s : State),
    (∃ t, exec (.adcHlSs ss) s = .next t ∧ FrameAndCost (.adcHlSs ss) s t
      ∧ t.hl.toNat = (s.hl.toNat + (s.rp ss).toNat + carryNat s) % 65536
      ∧ flagBits t.f =
          { s := t.hl.getLsbD 15, z := t.hl == 0, x5 := t.hl.getLsbD 13
            h := decide (4096 ≤ s.hl.toNat % 4096 + (s.rp ss).toNat % 4096 + carryNat s)
            x3 := t.hl.getLsbD 11, pv := beyondSigned 16 (s.hl.toInt + (s.rp ss).toInt + carryNat s), n := false
            c := decide (65536 ≤ s.hl.toNat + (s.rp ss).toNat + carryNat s) })
    ∧ ∃ t, exec (.sbcHlSs ss) s = .next t ∧ FrameAndCost (.sbcHlSs ss) s t
      ∧ t.hl.toNat = (s.hl.toNat + 131072 - (s.rp ss).toNat - carryNat s) % 65536
      ∧ flagBits t.f =
          { s := t.hl.getLsbD 15, z := t.hl == 0, x5 := t.hl.getLsbD 13
            h := decide (s.hl.toNat % 4096 < (s.rp ss).toNat % 4096 + carryNat s)
            x3 := t.hl.getLsbD 11, pv := beyondSigned 16 (s.hl.toInt - (s.rp ss).toInt - carryNat s), n := true
            c := decide (s.hl.toNat < (s.rp ss).toNat + carryNat s) }

/-- O43. RLCA, RRCA, RLA and RRA: A rotated, C the bit shifted out, PV, Z and S kept. Rules R181, R182, R183, R184. -/
def Obligations.AccumulatorRotates : Prop :=
  ∀ p ∈ [(Instr.rlca, Shift.rlc), (.rrca, .rrc), (.rla, .rl), (.rra, .rr)], ∀ s : State,
    let r := shiftByArithmetic p.2 s.main.a (s.f.getLsbD 0)
    ∃ t, exec p.1 s = .next t ∧ FrameAndCost p.1 s t ∧ t.main.a = r.1
      ∧ flagBits t.f = { flagBits s.f with x5 := r.1.getLsbD 5, h := false, x3 := r.1.getLsbD 3, n := false, c := r.2 }

/-- O44. RLC, RRC, RL, RR, SLA, SRA, SLL and SRL of a register, of (HL) and of (XY+d). Rules R185, R186, R187, R188, R189,
R190, R191, R192, R193. -/
def Obligations.ShiftsOfRegistersAndMemory : Prop :=
  ∀ (op : Shift) (s : State), s.mem.wf = true →
    (∀ r : R8, let res := shiftByArithmetic op (s.r8 r) (s.f.getLsbD 0)
      ∃ t, exec (shiftRForm op r) s = .next t ∧ FrameAndCost (shiftRForm op r) s t ∧ t.r8 r = res.1
        ∧ flagBits t.f = parityFlags res.1 false res.2)
    ∧ (let res := shiftByArithmetic op (s.byteAt s.hl) (s.f.getLsbD 0)
      ∃ t, exec (shiftMemHlForm op) s = .next t ∧ FrameAndCost (shiftMemHlForm op) s t ∧ Stored s t s.hl res.1
        ∧ flagBits t.f = parityFlags res.1 false res.2)
    ∧ ∀ (xy : XY) (d : Byte), let ea := s.xy xy + d.signExtend 16
      let res := shiftByArithmetic op ((s.enterIndexedCb xy d).byteAt ea) (s.f.getLsbD 0)
      ∃ t, exec (shiftXydForm op xy d) s = .next t ∧ FrameAndCost (shiftXydForm op xy d) s t ∧ Stored s t ea res.1
        ∧ t.scr = ea ∧ flagBits t.f = parityFlags res.1 false res.2

/-- O45. RES b and SET b change the one bit of a register, of (HL) or of (XY+d), and no flag. Rules R196, R197. -/
def Obligations.ResetAndSetOfBits : Prop :=
  ∀ (b : BitVec 3) (s : State), s.mem.wf = true →
    let res := fun (v : Byte) => BitVec.ofNat 8 (v.toNat - if v.getLsbD b.toNat then 2 ^ b.toNat else 0)
    let set := fun (v : Byte) => BitVec.ofNat 8 (v.toNat + if v.getLsbD b.toNat then 0 else 2 ^ b.toNat)
    (∀ r : R8, (∃ t, exec (.resBR b r) s = .next t ∧ FrameAndCost (.resBR b r) s t ∧ t.r8 r = res (s.r8 r) ∧ t.f = s.f)
      ∧ ∃ t, exec (.setBR b r) s = .next t ∧ FrameAndCost (.setBR b r) s t ∧ t.r8 r = set (s.r8 r) ∧ t.f = s.f)
    ∧ (∃ t, exec (.resBMemHl b) s = .next t ∧ FrameAndCost (.resBMemHl b) s t
      ∧ Stored s t s.hl (res (s.byteAt s.hl)) ∧ t.f = s.f)
    ∧ (∃ t, exec (.setBMemHl b) s = .next t ∧ FrameAndCost (.setBMemHl b) s t
      ∧ Stored s t s.hl (set (s.byteAt s.hl)) ∧ t.f = s.f)
    ∧ ∀ (xy : XY) (d : Byte), let ea := s.xy xy + d.signExtend 16
      let v := (s.enterIndexedCb xy d).byteAt ea
      (∃ t, exec (.resBXyd xy d b) s = .next t ∧ FrameAndCost (.resBXyd xy d b) s t
        ∧ Stored s t ea (res v) ∧ t.scr = ea ∧ t.f = s.f)
      ∧ ∃ t, exec (.setBXyd xy d b) s = .next t ∧ FrameAndCost (.setBXyd xy d b) s t
        ∧ Stored s t ea (set v) ∧ t.scr = ea ∧ t.f = s.f

/-- O46. The register-copy forms of the DD/FD+CB region: memory and the real register take the result. Derived from
43_rotate_bit. The copy forms are the decision D7 of the spec (R198). -/
def Obligations.CopyForms : Prop :=
  ∀ (xy : XY) (d : Byte) (r : R8) (s : State), s.mem.wf = true →
    let ea := s.xy xy + d.signExtend 16
    let v := (s.enterIndexedCb xy d).byteAt ea
    (∀ op : Shift, let res := shiftByArithmetic op v (s.f.getLsbD 0)
      ∃ t, exec (shiftCopyForm op xy d r) s = .next t ∧ FrameAndCost (shiftCopyForm op xy d r) s t ∧ Stored s t ea res.1
        ∧ t.r8 r = res.1 ∧ t.scr = ea ∧ flagBits t.f = parityFlags res.1 false res.2)
    ∧ ∀ b : BitVec 3,
      (let res := BitVec.ofNat 8 (v.toNat - if v.getLsbD b.toNat then 2 ^ b.toNat else 0)
        ∃ t, exec (.ldRResBXyd xy d b r) s = .next t ∧ FrameAndCost (.ldRResBXyd xy d b r) s t ∧ Stored s t ea res
          ∧ t.r8 r = res ∧ t.scr = ea ∧ t.f = s.f)
      ∧ (let res := BitVec.ofNat 8 (v.toNat + if v.getLsbD b.toNat then 0 else 2 ^ b.toNat)
        ∃ t, exec (.ldRSetBXyd xy d b r) s = .next t ∧ FrameAndCost (.ldRSetBXyd xy d b r) s t ∧ Stored s t ea res
          ∧ t.r8 r = res ∧ t.scr = ea ∧ t.f = s.f)

/-- O47. BIT b: Z and PV from the bit, S from bit 7, H set, C kept, X5 and X3 from the value or from SCR. Derived from
43_rotate_bit. That (HL) takes X5 and X3 from the value is the decision D6 of the spec (R194). -/
def Obligations.BitTests : Prop :=
  ∀ (b : BitVec 3) (s : State),
    let ok := fun (v from' : Byte) (t : State) =>
      flagBits t.f =
        { s := b == 7 && v.getLsbD 7, z := !v.getLsbD b.toNat, x5 := from'.getLsbD 5, h := true
          x3 := from'.getLsbD 3, pv := !v.getLsbD b.toNat, n := false, c := s.f.getLsbD 0 }
        ∧ t.mem = s.mem
    (∀ r : R8, ∃ t, exec (.bitBR b r) s = .next t ∧ FrameAndCost (.bitBR b r) s t ∧ ok (s.r8 r) (s.r8 r) t)
    ∧ (∃ t, exec (.bitBMemHl b) s = .next t ∧ FrameAndCost (.bitBMemHl b) s t ∧ ok (s.byteAt s.hl) (s.byteAt s.hl) t)
    ∧ ∀ (xy : XY) (d : Byte) (z : BitVec 3), let ea := s.xy xy + d.signExtend 16
      ∃ t, exec (.bitBXyd xy d b z) s = .next t ∧ FrameAndCost (.bitBXyd xy d b z) s t ∧ t.scr = ea
        ∧ ok ((s.enterIndexedCb xy d).byteAt ea) (BitVec.ofNat 8 (ea.toNat / 256)) t

/-- O48. RLD and RRD move the three nibbles of A and (HL), with the parity flags of A and C kept. Rules R199, R200. -/
def Obligations.NibbleRotates : Prop :=
  ∀ s : State, s.mem.wf = true →
    let a := s.main.a.toNat
    let m := (s.byteAt s.hl).toNat
    (∃ t, exec .rld s = .next t ∧ FrameAndCost .rld s t ∧ Stored s t s.hl (BitVec.ofNat 8 (m % 16 * 16 + a % 16))
      ∧ t.main.a.toNat = a / 16 * 16 + m / 16 ∧ flagBits t.f = parityFlags t.main.a false (s.f.getLsbD 0))
    ∧ ∃ t, exec .rrd s = .next t ∧ FrameAndCost .rrd s t ∧ Stored s t s.hl (BitVec.ofNat 8 (a % 16 * 16 + m / 16))
      ∧ t.main.a.toNat = a / 16 * 16 + m % 16 ∧ flagBits t.f = parityFlags t.main.a false (s.f.getLsbD 0)

/-- O49. Eight RLC give the byte back; RES and SET of a bit are idempotent and undo each other on it. Rule R201. -/
def Obligations.RotateAndBitLaws : Prop :=
  ∀ (r : R8) (b : BitVec 3) (s : State),
    (∃ t1 t2 t3 t4 t5 t6 t7 t8, exec (.rlcR r) s = .next t1 ∧ exec (.rlcR r) t1 = .next t2 ∧ exec (.rlcR r) t2 = .next t3
      ∧ exec (.rlcR r) t3 = .next t4 ∧ exec (.rlcR r) t4 = .next t5 ∧ exec (.rlcR r) t5 = .next t6
      ∧ exec (.rlcR r) t6 = .next t7 ∧ exec (.rlcR r) t7 = .next t8 ∧ t8.r8 r = s.r8 r)
    ∧ (∃ t, exec (.bitBR b r) s = .next t ∧ ∀ q : R8, t.r8 q = s.r8 q)
    ∧ ∃ tr ts trr tsr tss trs, exec (.resBR b r) s = .next tr ∧ exec (.setBR b r) s = .next ts
      ∧ exec (.resBR b r) tr = .next trr ∧ exec (.resBR b r) ts = .next tsr
      ∧ exec (.setBR b r) ts = .next tss ∧ exec (.setBR b r) tr = .next trs
      ∧ trr.r8 r = tr.r8 r ∧ tsr.r8 r = tr.r8 r ∧ tss.r8 r = ts.r8 r ∧ trs.r8 r = ts.r8 r

/-- O50. JP, JP cc, JP (HL), JP (XY), JR, JR cc and DJNZ: where PC goes, taken or not. Rules R78, R211, R212, R213, R214,
R215, R216. -/
def Obligations.Jumps : Prop :=
  ∀ s : State,
    let holds := fun (cc : Cond) =>
      match cc with
      | .nz => !(flagBits s.f).z
      | .z => (flagBits s.f).z
      | .nc => !(flagBits s.f).c
      | .c => (flagBits s.f).c
      | .po => !(flagBits s.f).pv
      | .pe => (flagBits s.f).pv
      | .p => !(flagBits s.f).s
      | .m => (flagBits s.f).s
    (∀ nn : Word, ∃ t, exec (.jpNn nn) s = .next t ∧ FrameAndCost (.jpNn nn) s t ∧ t.pc = nn)
    ∧ (∀ (cc : Cond) (nn : Word), ∃ t, exec (.jpCcNn cc nn) s = .next t ∧ FrameAndCost (.jpCcNn cc nn) s t
      ∧ t.pc = if holds cc then nn else s.pc + 2)
    ∧ (∃ t, exec .jpHl s = .next t ∧ FrameAndCost .jpHl s t ∧ t.pc = s.hl)
    ∧ (∀ xy : XY, ∃ t, exec (.jpXy xy) s = .next t ∧ FrameAndCost (.jpXy xy) s t ∧ t.pc = s.xy xy)
    ∧ ∀ e : Byte,
      (∃ t, exec (.jr e) s = .next t ∧ FrameAndCost (.jr e) s t ∧ t.pc = s.pc + 1 + e.signExtend 16)
      ∧ (∀ cc : Cond, ∃ t, exec (.jrCc cc e) s = .next t ∧ FrameAndCost (.jrCc cc e) s t
        ∧ t.pc = if holds cc then s.pc + 1 + e.signExtend 16 else s.pc + 1)
      ∧ ∃ t, exec (.djnz e) s = .next t ∧ FrameAndCost (.djnz e) s t ∧ t.main.b = s.main.b - 1
        ∧ t.pc = if s.main.b = 1 then s.pc + 1 else s.pc + 1 + e.signExtend 16

/-- O51. CALL, CALL cc and RST push the address after the instruction and jump; not taken, nothing. Rules R217, R218,
R223. -/
def Obligations.CallsAndRestarts : Prop :=
  ∀ s : State, s.mem.wf = true →
    let pushed := fun (t : State) (ret : Word) => t.sp = s.sp - 2 ∧ StoredWord s t (s.sp - 2) ret
    (∀ nn : Word, ∃ t, exec (.callNn nn) s = .next t ∧ FrameAndCost (.callNn nn) s t ∧ pushed t (s.pc + 2) ∧ t.pc = nn)
    ∧ (∀ (cc : Cond) (nn : Word), ∃ t, exec (.callCcNn cc nn) s = .next t ∧ FrameAndCost (.callCcNn cc nn) s t
      ∧ if s.cond cc then pushed t (s.pc + 2) ∧ t.pc = nn else t.sp = s.sp ∧ t.mem = s.mem ∧ t.pc = s.pc + 2)
    ∧ ∀ p : BitVec 3, ∃ t, exec (.rst p) s = .next t ∧ FrameAndCost (.rst p) s t ∧ pushed t s.pc
      ∧ t.pc.toNat = 8 * p.toNat

/-- O52. RET, RET cc and RETN pop PC; RETN also copies IFF2 into IFF1. Rules R219, R220, R221. -/
def Obligations.Returns : Prop :=
  ∀ s : State,
    let popped := fun (t : State) => t.sp = s.sp + 2
      ∧ t.pc.toNat = ((s.afterRead s.sp).byteAt (s.sp + 1)).toNat * 256 + (s.byteAt s.sp).toNat
    (∃ t, exec .ret s = .next t ∧ FrameAndCost .ret s t ∧ popped t)
    ∧ (∀ cc : Cond, ∃ t, exec (.retCc cc) s = .next t ∧ FrameAndCost (.retCc cc) s t
      ∧ if s.cond cc then popped t else t.sp = s.sp ∧ t.pc = s.pc)
    ∧ ∀ y : BitVec 3, ∃ t, exec (.retn y) s = .next t ∧ FrameAndCost (.retn y) s t ∧ popped t ∧ t.iff1 = s.iff2

/-- O53. LDI, LDD, LDIR and LDDR: the byte moved, the pointers, BC, the flags, and the repeat. Derived from 45_block. H
and N at 0 are the decision D32 of the spec (R232). -/
def Obligations.BlockTransfers : Prop :=
  ∀ p ∈ [(Instr.ldi, (1 : Word), false), (.ldd, 0xFFFF, false), (.ldir, 1, true), (.lddr, 0xFFFF, true)],
    ∀ s : State, s.mem.wf = true →
    ∃ t, exec p.1 s = .next t ∧ FrameAndCost p.1 s t ∧ Stored s t s.de (s.byteAt s.hl)
      ∧ t.hl = s.hl + p.2.1 ∧ t.de = s.de + p.2.1 ∧ t.bc = s.bc - 1
      ∧ t.pc = (if p.2.2 && s.bc != 1 then s.pc - 2 else s.pc)
      ∧ flagBits t.f = { flagBits s.f with
          x5 := (s.byteAt s.hl + s.main.a).getLsbD 1, h := false, x3 := (s.byteAt s.hl + s.main.a).getLsbD 3
          pv := s.bc != 1, n := false }

/-- O54. CPI, CPD, CPIR and CPDR: the comparison with A, the pointer, BC, the flags, and the repeat. Derived from
45_block. N, X5 and X3 are the decision D31 of the spec (the step above R237). -/
def Obligations.BlockSearches : Prop :=
  ∀ p ∈ [(Instr.cpi, (1 : Word), false), (.cpd, 0xFFFF, false), (.cpir, 1, true), (.cpdr, 0xFFFF, true)],
    ∀ s : State,
    let v := s.byteAt s.hl
    let half := decide (s.main.a.toNat % 16 < v.toNat % 16)
    let adjusted := BitVec.ofNat 8 (s.main.a.toNat + 512 - v.toNat - half.toNat)
    ∃ t, exec p.1 s = .next t ∧ FrameAndCost p.1 s t
      ∧ t.hl = s.hl + p.2.1 ∧ t.bc = s.bc - 1
      ∧ t.pc = (if p.2.2 && s.bc != 1 && s.main.a != v then s.pc - 2 else s.pc)
      ∧ flagBits t.f =
          { s := (s.main.a - v).getLsbD 7, z := s.main.a == v, x5 := adjusted.getLsbD 1, h := half
            x3 := adjusted.getLsbD 3, pv := s.bc != 1, n := true, c := s.f.getLsbD 0 }

/-- O55. INI, IND, INIR and INDR: the port at BC before the decrement, the store, B, HL and the flags. Derived from
45_block, 20_memory. The port, N and PV are the decisions D20 and D30 of the spec (the step above R241); the byte
read, as the answer lined up or the free value, and the count of draws are log 4 under D4, the choice of the model. -/
def Obligations.BlockInputs : Prop :=
  ∀ p ∈ [(Instr.ini, (1 : Byte), false), (.ind, 0xFF, false), (.inir, 1, true), (.indr, 0xFF, true)],
    ∀ s : State, s.mem.wf = true →
    let v := s.answers.headD (Config.portIn s.draws s.bc)
    let sum := v.toNat + (s.main.c + p.2.1).toNat
    ∃ t, exec p.1 s = .next t ∧ FrameAndCost p.1 s t ∧ t.events = s.events ++ [.portIn s.bc v] ∧ t.draws = s.draws + 1
      ∧ Stored s t s.hl v ∧ t.main.b = s.main.b - 1 ∧ t.hl = s.hl + p.2.1.signExtend 16
      ∧ t.pc = (if p.2.2 && s.main.b != 1 then s.pc - 2 else s.pc)
      ∧ flagBits t.f =
          { s := t.main.b.getLsbD 7, z := t.main.b == 0, x5 := t.main.b.getLsbD 5, h := decide (255 < sum)
            x3 := t.main.b.getLsbD 3, pv := evenParity (BitVec.ofNat 8 (sum % 8) ^^^ t.main.b), n := v.getLsbD 7
            c := decide (255 < sum) }

/-- O56. OUTI, OUTD, OTIR and OTDR: the port at BC after the decrement, HL, B and the flags. Derived from 45_block,
20_memory. The port, N and PV are the decisions D20 and D30 of the spec (the step above R245). -/
def Obligations.BlockOutputs : Prop :=
  ∀ p ∈ [(Instr.outi, (1 : Byte), false), (.outd, 0xFF, false), (.otir, 1, true), (.otdr, 0xFF, true)],
    ∀ s : State,
    let v := s.byteAt s.hl
    ∃ t, exec p.1 s = .next t ∧ FrameAndCost p.1 s t
      ∧ t.events = s.events ++ [.portOut (mkWord (s.main.b - 1) s.main.c) v]
      ∧ t.main.b = s.main.b - 1 ∧ t.hl = s.hl + p.2.1.signExtend 16
      ∧ t.pc = (if p.2.2 && s.main.b != 1 then s.pc - 2 else s.pc)
      ∧ (let sum := v.toNat + t.main.l.toNat
        flagBits t.f =
          { s := t.main.b.getLsbD 7, z := t.main.b == 0, x5 := t.main.b.getLsbD 5, h := decide (255 < sum)
            x3 := t.main.b.getLsbD 3, pv := evenParity (BitVec.ofNat 8 (sum % 8) ^^^ t.main.b), n := v.getLsbD 7
            c := decide (255 < sum) })

/-- O57. A repeating block form leaves what its single form leaves, apart from PC and T. Derived from 45_block. -/
def Obligations.RepeatingFormIsItsSingleForm : Prop :=
  ∀ p ∈ [(Instr.ldir, Instr.ldi), (.lddr, .ldd), (.cpir, .cpi), (.cpdr, .cpd), (.inir, .ini), (.indr, .ind), (.otir, .outi),
      (.otdr, .outd)], ∀ s : State,
    ∃ t u, exec p.2 s = .next t ∧ exec p.1 s = .next u ∧ u = { t with pc := u.pc, t := u.t }
      ∧ ((u.pc = t.pc ∧ u.t = t.t) ∨ (u.pc = t.pc - 2 ∧ t.t + 5 ≤ u.t ∧ (s.platform.contended = false → u.t = t.t + 5)))

/-- O58. IN and OUT: the port address, the draw or the logged byte, the register and the flags. Derived from
46_io_cpu_control, 20_memory. The port addresses are the decision D20 of the spec (R52); the byte read and the count
of draws are log 4 under D4, the choice of the model. -/
def Obligations.PortInstructions : Prop :=
  ∀ s : State,
    (∀ n : Byte, let v := s.fetchImm.portByte (mkWord s.main.a n)
      ∃ t, exec (.inAN n) s = .next t ∧ FrameAndCost (.inAN n) s t ∧ t.main.a = v ∧ t.f = s.f
        ∧ t.events = s.events ++ [.portIn (mkWord s.main.a n) v] ∧ t.draws = s.fetchImm.draws + 1)
    ∧ (∀ r : R8, let v := s.portByte s.bc
      ∃ t, exec (.inRC r) s = .next t ∧ FrameAndCost (.inRC r) s t ∧ t.r8 r = v
        ∧ flagBits t.f = parityFlags v false (s.f.getLsbD 0)
        ∧ t.events = s.events ++ [.portIn s.bc v] ∧ t.draws = s.draws + 1)
    ∧ (let v := s.portByte s.bc
      ∃ t, exec .inFC s = .next t ∧ FrameAndCost .inFC s t ∧ flagBits t.f = parityFlags v false (s.f.getLsbD 0)
        ∧ t.events = s.events ++ [.portIn s.bc v] ∧ t.draws = s.draws + 1)
    ∧ (∀ n : Byte, ∃ t, exec (.outNA n) s = .next t ∧ FrameAndCost (.outNA n) s t
      ∧ t.events = s.events ++ [.portOut (mkWord s.main.a n) s.main.a] ∧ t.mem = s.mem)
    ∧ (∀ r : R8, ∃ t, exec (.outCR r) s = .next t ∧ FrameAndCost (.outCR r) s t
      ∧ t.events = s.events ++ [.portOut s.bc (s.r8 r)] ∧ t.mem = s.mem)
    ∧ ∃ t, exec .outC0 s = .next t ∧ FrameAndCost .outC0 s t ∧ t.events = s.events ++ [.portOut s.bc 0x00] ∧ t.mem = s.mem

/-- O59. NOP, NOP(ED), a falling prefix, DI, EI, HALT, IM 0, 1, 2 and RETI. Derived from 46_io_cpu_control, 44_control,
30_encoding. EIdelay, the size of NOP(ED) and RETI are the decisions D5, D8 and D24 of the spec. -/
def Obligations.ControlInstructions : Prop :=
  ∀ s : State,
    exec .nop s = .next s ∧ (∀ op : Byte, exec (.nopEd op) s = .next s) ∧ (∀ xy : XY, exec (.xyPrefix xy) s = .next s)
    ∧ BaseCost .nop s s ∧ (∀ op : Byte, BaseCost (.nopEd op) s s) ∧ (∀ xy : XY, BaseCost (.xyPrefix xy) s s)
    ∧ (∃ t, exec .di s = .next t ∧ FrameAndCost .di s t ∧ t.iff1 = false ∧ t.iff2 = false)
    ∧ (∃ t, exec .ei s = .next t ∧ FrameAndCost .ei s t ∧ t.iff1 = true ∧ t.iff2 = true ∧ t.eiDelay = true)
    ∧ (∃ t, exec .halt s = .next t ∧ FrameAndCost .halt s t ∧ t.halted = true ∧ t.pc = s.pc - 1)
    ∧ (∃ t, exec .reti s = .next t ∧ FrameAndCost .reti s t ∧ t.iff1 = s.iff2 ∧ t.sp = s.sp + 2
      ∧ t.pc.toNat = ((s.afterRead s.sp).byteAt (s.sp + 1)).toNat * 256 + (s.byteAt s.sp).toNat)
    ∧ ∀ y : BitVec 3, (∃ t, exec (.im0 y) s = .next t ∧ FrameAndCost (.im0 y) s t ∧ t.im = 0)
      ∧ (∃ t, exec (.im1 y) s = .next t ∧ FrameAndCost (.im1 y) s t ∧ t.im = 1)
      ∧ ∃ t, exec (.im2 y) s = .next t ∧ FrameAndCost (.im2 y) s t ∧ t.im = 2

/-- O60. LD I,A, LD R,A, LD A,I and LD A,R: the byte moved, and PV from IFF2. Derived from 46_io_cpu_control. PV from IFF2
is the decision D25 of the spec (R268, R269). -/
def Obligations.TransfersOfIAndR : Prop :=
  ∀ s : State,
    (∃ t, exec .ldIA s = .next t ∧ FrameAndCost .ldIA s t ∧ t.i = s.main.a)
    ∧ (∃ t, exec .ldRA s = .next t ∧ FrameAndCost .ldRA s t ∧ t.rLow.toNat = s.main.a.toNat % 128
      ∧ t.rB7 = decide (128 ≤ s.main.a.toNat))
    ∧ (∃ t, exec .ldAI s = .next t ∧ FrameAndCost .ldAI s t ∧ t.main.a = s.i
      ∧ flagBits t.f = { parityFlags s.i false (s.f.getLsbD 0) with pv := s.iff2 })
    ∧ ∃ t, exec .ldAR s = .next t ∧ FrameAndCost .ldAR s t
      ∧ t.main.a.toNat = s.rLow.toNat + (if s.rB7 then 128 else 0)
      ∧ flagBits t.f = { parityFlags t.main.a false (s.f.getLsbD 0) with pv := s.iff2 }
end

