-- ==== Sys2Proof/Laws/Memory.lean ====
section
/-! SUPPORT. The laws of memory: what a read gives after a write, and that a write keeps the canonical form. -/

namespace Sys2Proof.Machine

namespace Memory

theorem read_cons_self (a : Nat) (v : Byte) (m : Memory) (h : Memory.read m a = Config.unlistedByte a) :
    Memory.read (Memory.cons a v m) a = v := by
  unfold Memory.cons
  split
  · next hv => rw [h, hv]
  · simp [Memory.read]

theorem read_cons_ne {a b : Nat} (v : Byte) (m : Memory) (h : b ≠ a) :
    Memory.read (Memory.cons a v m) b = Memory.read m b := by
  unfold Memory.cons
  split
  · rfl
  · simp [Memory.read, h]

/-- Nothing below the list's first address is listed. -/
theorem read_below {lo : Nat} : ∀ {m : Memory} {a : Nat}, wfFrom lo m = true → a < lo → Memory.read m a = Config.unlistedByte a
  | [], _, _, _ => rfl
  | (b, w) :: m, a, h, ha => by
    simp only [wfFrom, Bool.and_eq_true, decide_eq_true_eq] at h
    have hab : a ≠ b := by omega
    simp only [Memory.read, hab, if_false]
    exact read_below h.2 (by omega)

/-- A write leaves every other address alone. -/
theorem read_write_ne {a b : Nat} (v : Byte) (h : b ≠ a) :
    ∀ m : Memory, Memory.read (Memory.write m a v) b = Memory.read m b
  | [] => by simp [Memory.write, read_cons_ne v [] h]
  | (c, w) :: m => by
    unfold Memory.write
    split
    · exact read_cons_ne v _ h
    · split
      · next hac => rw [read_cons_ne v m h]; simp [Memory.read, hac ▸ h]
      · simp only [Memory.read, read_write_ne v h m]

/-- A read gives what was last written at the address. -/
theorem read_write_self {lo a : Nat} (v : Byte) :
    ∀ {m : Memory}, wfFrom lo m = true → Memory.read (Memory.write m a v) a = v
  | [], _ => read_cons_self a v [] rfl
  | (c, w) :: m, h => by
    have hm := h
    simp only [wfFrom, Bool.and_eq_true, decide_eq_true_eq] at h
    unfold Memory.write
    split
    · next hac =>
      refine read_cons_self a v _ ?_
      have hne : a ≠ c := by omega
      simp only [Memory.read, hne, if_false]
      exact read_below h.2 (by omega)
    · split
      · next hac => exact read_cons_self a v m (read_below h.2 (by omega))
      · next hlt hne =>
        simp only [Memory.read, hne, if_false]
        exact read_write_self v h.2

theorem wfFrom_mono {lo lo' : Nat} (h : lo' ≤ lo) : ∀ {m : Memory}, wfFrom lo m = true → wfFrom lo' m = true
  | [], _ => rfl
  | (b, w) :: m, hm => by
    simp only [wfFrom, Bool.and_eq_true, decide_eq_true_eq] at hm ⊢
    exact ⟨⟨⟨by omega, hm.1.1.2⟩, hm.1.2⟩, hm.2⟩

theorem wfFrom_cons {lo a : Nat} {v : Byte} {m : Memory} (hlo : lo ≤ a) (ha : a < 65536) (hm : wfFrom (a + 1) m = true) :
    wfFrom lo (Memory.cons a v m) = true := by
  unfold Memory.cons
  split
  · exact wfFrom_mono (by omega) hm
  · next hv => simp [wfFrom, hlo, ha, hm, hv]

/-- A write keeps the canonical form. -/
theorem wfFrom_write {a : Nat} (v : Byte) (ha : a < 65536) :
    ∀ {m : Memory} {lo : Nat}, lo ≤ a → wfFrom lo m = true → wfFrom lo (Memory.write m a v) = true
  | [], lo, hlo, _ => wfFrom_cons hlo ha rfl
  | (b, w) :: m, lo, hlo, h => by
    have hm := h
    simp only [wfFrom, Bool.and_eq_true, decide_eq_true_eq] at h
    unfold Memory.write
    split
    · next hab =>
      refine wfFrom_cons hlo ha ?_
      simp only [wfFrom, Bool.and_eq_true, decide_eq_true_eq]
      exact ⟨⟨⟨by omega, h.1.1.2⟩, h.1.2⟩, h.2⟩
    · split
      · next hab => exact wfFrom_cons hlo ha (wfFrom_mono (by omega) h.2)
      · next hlt hne =>
        simp only [wfFrom, Bool.and_eq_true, decide_eq_true_eq]
        exact ⟨⟨⟨h.1.1.1, h.1.1.2⟩, h.1.2⟩, wfFrom_write v ha (by omega) h.2⟩

theorem wf_write {m : Memory} (a : Word) (v : Byte) (h : m.wf = true) : (m.write a.toNat v).wf = true :=
  wfFrom_write v a.isLt (Nat.zero_le _) h

theorem wf_writeList : ∀ (vs : List Byte) (m : Memory) (a : Word), m.wf = true → (m.writeList a vs).wf = true
  | [], _, _, h => h
  | v :: vs, _, _, h => wf_writeList vs _ _ (wf_write _ v h)

theorem wf_nil : Memory.wf [] = true := rfl

/-- Two canonical memories that read alike are equal. -/
theorem eq_of_read {lo : Nat} : ∀ {m n : Memory}, wfFrom lo m = true → wfFrom lo n = true →
    (∀ a, Memory.read m a = Memory.read n a) → m = n
  | [], [], _, _, _ => rfl
  | [], (b, w) :: n, _, hn, h => by
    simp only [wfFrom, Bool.and_eq_true, decide_eq_true_eq, bne_iff_ne] at hn
    have := h b
    simp [Memory.read] at this
    exact absurd this.symm hn.1.2
  | (b, w) :: m, [], hm, _, h => by
    simp only [wfFrom, Bool.and_eq_true, decide_eq_true_eq, bne_iff_ne] at hm
    have := h b
    simp [Memory.read] at this
    exact absurd this hm.1.2
  | (b, w) :: m, (c, u) :: n, hm, hn, h => by
    simp only [wfFrom, Bool.and_eq_true, decide_eq_true_eq, bne_iff_ne] at hm hn
    have hbc : b = c := by
      rcases Nat.lt_trichotomy b c with hlt | heq | hgt
      · have h1 := h b
        simp only [Memory.read, if_true, Nat.ne_of_lt hlt, if_false] at h1
        rw [read_below hn.2 (by omega)] at h1
        exact absurd h1 hm.1.2
      · exact heq
      · have h1 := h c
        simp only [Memory.read, if_true, Nat.ne_of_lt hgt, if_false] at h1
        rw [read_below hm.2 (by omega)] at h1
        exact absurd h1.symm hn.1.2
    subst hbc
    have hw : w = u := by simpa [Memory.read] using h b
    subst hw
    have hrest : m = n := by
      refine eq_of_read hm.2 hn.2 fun a => ?_
      by_cases ha : a = b
      · subst ha
        rw [read_below hm.2 (by omega), read_below hn.2 (by omega)]
      · simpa [Memory.read, ha] using h a
    rw [hrest]

end Memory

/-- A store that RAM keeps reads back. -/
theorem peek_write_self (s : State) (a : Word) (v : Byte) (h : s.mem.wf = true) :
    Memory.read (s.mem.write a.toNat v) a.toNat = v := Memory.read_write_self v h

end Sys2Proof.Machine
end

