-- ==== Sys2Proof/Laws/State.lean ====
section
/-! SUPPORT. The fields of State after each update: one lemma for each field and update, so that no later proof unfolds a
record update. Named `<update>_<field>`. -/

namespace Sys2Proof.Machine

/-! T -/

section
variable (s : State) (n : Nat)

@[simp] theorem addT_main : (s.addT n).main = s.main := rfl
@[simp] theorem addT_shadow : (s.addT n).shadow = s.shadow := rfl
@[simp] theorem addT_ix : (s.addT n).ix = s.ix := rfl
@[simp] theorem addT_iy : (s.addT n).iy = s.iy := rfl
@[simp] theorem addT_sp : (s.addT n).sp = s.sp := rfl
@[simp] theorem addT_pc : (s.addT n).pc = s.pc := rfl
@[simp] theorem addT_scr : (s.addT n).scr = s.scr := rfl
@[simp] theorem addT_i : (s.addT n).i = s.i := rfl
@[simp] theorem addT_rLow : (s.addT n).rLow = s.rLow := rfl
@[simp] theorem addT_rB7 : (s.addT n).rB7 = s.rB7 := rfl
@[simp] theorem addT_iff1 : (s.addT n).iff1 = s.iff1 := rfl
@[simp] theorem addT_iff2 : (s.addT n).iff2 = s.iff2 := rfl
@[simp] theorem addT_im : (s.addT n).im = s.im := rfl
@[simp] theorem addT_halted : (s.addT n).halted = s.halted := rfl
@[simp] theorem addT_t : (s.addT n).t = s.t + n := rfl
@[simp] theorem addT_eiDelay : (s.addT n).eiDelay = s.eiDelay := rfl
@[simp] theorem addT_faulted : (s.addT n).faulted = s.faulted := rfl
@[simp] theorem addT_resetDone : (s.addT n).resetDone = s.resetDone := rfl
@[simp] theorem addT_mem : (s.addT n).mem = s.mem := rfl
@[simp] theorem addT_events : (s.addT n).events = s.events := rfl
@[simp] theorem addT_draws : (s.addT n).draws = s.draws := rfl
@[simp] theorem addT_answers : (s.addT n).answers = s.answers := rfl
@[simp] theorem addT_platform : (s.addT n).platform = s.platform := rfl

end

/-! A timed call -/

section
variable (s : State) (k : BusKind) (a : Word) (n : Nat)

@[simp] theorem tick_main : (s.tick k a n).main = s.main := rfl
@[simp] theorem tick_shadow : (s.tick k a n).shadow = s.shadow := rfl
@[simp] theorem tick_ix : (s.tick k a n).ix = s.ix := rfl
@[simp] theorem tick_iy : (s.tick k a n).iy = s.iy := rfl
@[simp] theorem tick_sp : (s.tick k a n).sp = s.sp := rfl
@[simp] theorem tick_pc : (s.tick k a n).pc = s.pc := rfl
@[simp] theorem tick_scr : (s.tick k a n).scr = s.scr := rfl
@[simp] theorem tick_i : (s.tick k a n).i = s.i := rfl
@[simp] theorem tick_rLow : (s.tick k a n).rLow = s.rLow := rfl
@[simp] theorem tick_rB7 : (s.tick k a n).rB7 = s.rB7 := rfl
@[simp] theorem tick_iff1 : (s.tick k a n).iff1 = s.iff1 := rfl
@[simp] theorem tick_iff2 : (s.tick k a n).iff2 = s.iff2 := rfl
@[simp] theorem tick_im : (s.tick k a n).im = s.im := rfl
@[simp] theorem tick_halted : (s.tick k a n).halted = s.halted := rfl
@[simp] theorem tick_eiDelay : (s.tick k a n).eiDelay = s.eiDelay := rfl
@[simp] theorem tick_faulted : (s.tick k a n).faulted = s.faulted := rfl
@[simp] theorem tick_resetDone : (s.tick k a n).resetDone = s.resetDone := rfl
@[simp] theorem tick_mem : (s.tick k a n).mem = s.mem := rfl
@[simp] theorem tick_events : (s.tick k a n).events = s.events := rfl
@[simp] theorem tick_draws : (s.tick k a n).draws = s.draws := rfl
@[simp] theorem tick_answers : (s.tick k a n).answers = s.answers := rfl
@[simp] theorem tick_platform : (s.tick k a n).platform = s.platform := rfl

end

/-! Registers -/

section
variable (s : State) (r : R8) (v : Byte)

@[simp] theorem setR8_main : (s.setR8 r v).main = s.main.set r v := rfl
@[simp] theorem setR8_shadow : (s.setR8 r v).shadow = s.shadow := rfl
@[simp] theorem setR8_ix : (s.setR8 r v).ix = s.ix := rfl
@[simp] theorem setR8_iy : (s.setR8 r v).iy = s.iy := rfl
@[simp] theorem setR8_sp : (s.setR8 r v).sp = s.sp := rfl
@[simp] theorem setR8_pc : (s.setR8 r v).pc = s.pc := rfl
@[simp] theorem setR8_scr : (s.setR8 r v).scr = s.scr := rfl
@[simp] theorem setR8_i : (s.setR8 r v).i = s.i := rfl
@[simp] theorem setR8_rLow : (s.setR8 r v).rLow = s.rLow := rfl
@[simp] theorem setR8_rB7 : (s.setR8 r v).rB7 = s.rB7 := rfl
@[simp] theorem setR8_iff1 : (s.setR8 r v).iff1 = s.iff1 := rfl
@[simp] theorem setR8_iff2 : (s.setR8 r v).iff2 = s.iff2 := rfl
@[simp] theorem setR8_im : (s.setR8 r v).im = s.im := rfl
@[simp] theorem setR8_halted : (s.setR8 r v).halted = s.halted := rfl
@[simp] theorem setR8_t : (s.setR8 r v).t = s.t := rfl
@[simp] theorem setR8_eiDelay : (s.setR8 r v).eiDelay = s.eiDelay := rfl
@[simp] theorem setR8_faulted : (s.setR8 r v).faulted = s.faulted := rfl
@[simp] theorem setR8_resetDone : (s.setR8 r v).resetDone = s.resetDone := rfl
@[simp] theorem setR8_mem : (s.setR8 r v).mem = s.mem := rfl
@[simp] theorem setR8_events : (s.setR8 r v).events = s.events := rfl
@[simp] theorem setR8_draws : (s.setR8 r v).draws = s.draws := rfl
@[simp] theorem setR8_answers : (s.setR8 r v).answers = s.answers := rfl
@[simp] theorem setR8_platform : (s.setR8 r v).platform = s.platform := rfl

end

/-! F -/

section
variable (s : State) (v : Byte)

@[simp] theorem setF_main : (s.setF v).main = { s.main with f := v } := rfl
@[simp] theorem setF_shadow : (s.setF v).shadow = s.shadow := rfl
@[simp] theorem setF_ix : (s.setF v).ix = s.ix := rfl
@[simp] theorem setF_iy : (s.setF v).iy = s.iy := rfl
@[simp] theorem setF_sp : (s.setF v).sp = s.sp := rfl
@[simp] theorem setF_pc : (s.setF v).pc = s.pc := rfl
@[simp] theorem setF_scr : (s.setF v).scr = s.scr := rfl
@[simp] theorem setF_i : (s.setF v).i = s.i := rfl
@[simp] theorem setF_rLow : (s.setF v).rLow = s.rLow := rfl
@[simp] theorem setF_rB7 : (s.setF v).rB7 = s.rB7 := rfl
@[simp] theorem setF_iff1 : (s.setF v).iff1 = s.iff1 := rfl
@[simp] theorem setF_iff2 : (s.setF v).iff2 = s.iff2 := rfl
@[simp] theorem setF_im : (s.setF v).im = s.im := rfl
@[simp] theorem setF_halted : (s.setF v).halted = s.halted := rfl
@[simp] theorem setF_t : (s.setF v).t = s.t := rfl
@[simp] theorem setF_eiDelay : (s.setF v).eiDelay = s.eiDelay := rfl
@[simp] theorem setF_faulted : (s.setF v).faulted = s.faulted := rfl
@[simp] theorem setF_resetDone : (s.setF v).resetDone = s.resetDone := rfl
@[simp] theorem setF_mem : (s.setF v).mem = s.mem := rfl
@[simp] theorem setF_events : (s.setF v).events = s.events := rfl
@[simp] theorem setF_draws : (s.setF v).draws = s.draws := rfl
@[simp] theorem setF_answers : (s.setF v).answers = s.answers := rfl
@[simp] theorem setF_platform : (s.setF v).platform = s.platform := rfl

end

/-! The primary set -/

section
variable (s : State) (g : Bank)

@[simp] theorem setMain_main : (s.setMain g).main = g := rfl
@[simp] theorem setMain_shadow : (s.setMain g).shadow = s.shadow := rfl
@[simp] theorem setMain_ix : (s.setMain g).ix = s.ix := rfl
@[simp] theorem setMain_iy : (s.setMain g).iy = s.iy := rfl
@[simp] theorem setMain_sp : (s.setMain g).sp = s.sp := rfl
@[simp] theorem setMain_pc : (s.setMain g).pc = s.pc := rfl
@[simp] theorem setMain_scr : (s.setMain g).scr = s.scr := rfl
@[simp] theorem setMain_i : (s.setMain g).i = s.i := rfl
@[simp] theorem setMain_rLow : (s.setMain g).rLow = s.rLow := rfl
@[simp] theorem setMain_rB7 : (s.setMain g).rB7 = s.rB7 := rfl
@[simp] theorem setMain_iff1 : (s.setMain g).iff1 = s.iff1 := rfl
@[simp] theorem setMain_iff2 : (s.setMain g).iff2 = s.iff2 := rfl
@[simp] theorem setMain_im : (s.setMain g).im = s.im := rfl
@[simp] theorem setMain_halted : (s.setMain g).halted = s.halted := rfl
@[simp] theorem setMain_t : (s.setMain g).t = s.t := rfl
@[simp] theorem setMain_eiDelay : (s.setMain g).eiDelay = s.eiDelay := rfl
@[simp] theorem setMain_faulted : (s.setMain g).faulted = s.faulted := rfl
@[simp] theorem setMain_resetDone : (s.setMain g).resetDone = s.resetDone := rfl
@[simp] theorem setMain_mem : (s.setMain g).mem = s.mem := rfl
@[simp] theorem setMain_events : (s.setMain g).events = s.events := rfl
@[simp] theorem setMain_draws : (s.setMain g).draws = s.draws := rfl
@[simp] theorem setMain_answers : (s.setMain g).answers = s.answers := rfl
@[simp] theorem setMain_platform : (s.setMain g).platform = s.platform := rfl

end

/-! The shadow set -/

section
variable (s : State) (g : Bank)

@[simp] theorem setShadow_main : (s.setShadow g).main = s.main := rfl
@[simp] theorem setShadow_shadow : (s.setShadow g).shadow = g := rfl
@[simp] theorem setShadow_ix : (s.setShadow g).ix = s.ix := rfl
@[simp] theorem setShadow_iy : (s.setShadow g).iy = s.iy := rfl
@[simp] theorem setShadow_sp : (s.setShadow g).sp = s.sp := rfl
@[simp] theorem setShadow_pc : (s.setShadow g).pc = s.pc := rfl
@[simp] theorem setShadow_scr : (s.setShadow g).scr = s.scr := rfl
@[simp] theorem setShadow_i : (s.setShadow g).i = s.i := rfl
@[simp] theorem setShadow_rLow : (s.setShadow g).rLow = s.rLow := rfl
@[simp] theorem setShadow_rB7 : (s.setShadow g).rB7 = s.rB7 := rfl
@[simp] theorem setShadow_iff1 : (s.setShadow g).iff1 = s.iff1 := rfl
@[simp] theorem setShadow_iff2 : (s.setShadow g).iff2 = s.iff2 := rfl
@[simp] theorem setShadow_im : (s.setShadow g).im = s.im := rfl
@[simp] theorem setShadow_halted : (s.setShadow g).halted = s.halted := rfl
@[simp] theorem setShadow_t : (s.setShadow g).t = s.t := rfl
@[simp] theorem setShadow_eiDelay : (s.setShadow g).eiDelay = s.eiDelay := rfl
@[simp] theorem setShadow_faulted : (s.setShadow g).faulted = s.faulted := rfl
@[simp] theorem setShadow_resetDone : (s.setShadow g).resetDone = s.resetDone := rfl
@[simp] theorem setShadow_mem : (s.setShadow g).mem = s.mem := rfl
@[simp] theorem setShadow_events : (s.setShadow g).events = s.events := rfl
@[simp] theorem setShadow_draws : (s.setShadow g).draws = s.draws := rfl
@[simp] theorem setShadow_answers : (s.setShadow g).answers = s.answers := rfl
@[simp] theorem setShadow_platform : (s.setShadow g).platform = s.platform := rfl

end

/-! SP -/

section
variable (s : State) (v : Word)

@[simp] theorem setSp_main : (s.setSp v).main = s.main := rfl
@[simp] theorem setSp_shadow : (s.setSp v).shadow = s.shadow := rfl
@[simp] theorem setSp_ix : (s.setSp v).ix = s.ix := rfl
@[simp] theorem setSp_iy : (s.setSp v).iy = s.iy := rfl
@[simp] theorem setSp_sp : (s.setSp v).sp = v := rfl
@[simp] theorem setSp_pc : (s.setSp v).pc = s.pc := rfl
@[simp] theorem setSp_scr : (s.setSp v).scr = s.scr := rfl
@[simp] theorem setSp_i : (s.setSp v).i = s.i := rfl
@[simp] theorem setSp_rLow : (s.setSp v).rLow = s.rLow := rfl
@[simp] theorem setSp_rB7 : (s.setSp v).rB7 = s.rB7 := rfl
@[simp] theorem setSp_iff1 : (s.setSp v).iff1 = s.iff1 := rfl
@[simp] theorem setSp_iff2 : (s.setSp v).iff2 = s.iff2 := rfl
@[simp] theorem setSp_im : (s.setSp v).im = s.im := rfl
@[simp] theorem setSp_halted : (s.setSp v).halted = s.halted := rfl
@[simp] theorem setSp_t : (s.setSp v).t = s.t := rfl
@[simp] theorem setSp_eiDelay : (s.setSp v).eiDelay = s.eiDelay := rfl
@[simp] theorem setSp_faulted : (s.setSp v).faulted = s.faulted := rfl
@[simp] theorem setSp_resetDone : (s.setSp v).resetDone = s.resetDone := rfl
@[simp] theorem setSp_mem : (s.setSp v).mem = s.mem := rfl
@[simp] theorem setSp_events : (s.setSp v).events = s.events := rfl
@[simp] theorem setSp_draws : (s.setSp v).draws = s.draws := rfl
@[simp] theorem setSp_answers : (s.setSp v).answers = s.answers := rfl
@[simp] theorem setSp_platform : (s.setSp v).platform = s.platform := rfl

end

/-! PC -/

section
variable (s : State) (v : Word)

@[simp] theorem setPc_main : (s.setPc v).main = s.main := rfl
@[simp] theorem setPc_shadow : (s.setPc v).shadow = s.shadow := rfl
@[simp] theorem setPc_ix : (s.setPc v).ix = s.ix := rfl
@[simp] theorem setPc_iy : (s.setPc v).iy = s.iy := rfl
@[simp] theorem setPc_sp : (s.setPc v).sp = s.sp := rfl
@[simp] theorem setPc_pc : (s.setPc v).pc = v := rfl
@[simp] theorem setPc_scr : (s.setPc v).scr = s.scr := rfl
@[simp] theorem setPc_i : (s.setPc v).i = s.i := rfl
@[simp] theorem setPc_rLow : (s.setPc v).rLow = s.rLow := rfl
@[simp] theorem setPc_rB7 : (s.setPc v).rB7 = s.rB7 := rfl
@[simp] theorem setPc_iff1 : (s.setPc v).iff1 = s.iff1 := rfl
@[simp] theorem setPc_iff2 : (s.setPc v).iff2 = s.iff2 := rfl
@[simp] theorem setPc_im : (s.setPc v).im = s.im := rfl
@[simp] theorem setPc_halted : (s.setPc v).halted = s.halted := rfl
@[simp] theorem setPc_t : (s.setPc v).t = s.t := rfl
@[simp] theorem setPc_eiDelay : (s.setPc v).eiDelay = s.eiDelay := rfl
@[simp] theorem setPc_faulted : (s.setPc v).faulted = s.faulted := rfl
@[simp] theorem setPc_resetDone : (s.setPc v).resetDone = s.resetDone := rfl
@[simp] theorem setPc_mem : (s.setPc v).mem = s.mem := rfl
@[simp] theorem setPc_events : (s.setPc v).events = s.events := rfl
@[simp] theorem setPc_draws : (s.setPc v).draws = s.draws := rfl
@[simp] theorem setPc_answers : (s.setPc v).answers = s.answers := rfl
@[simp] theorem setPc_platform : (s.setPc v).platform = s.platform := rfl

end

/-! SCR -/

section
variable (s : State) (v : Word)

@[simp] theorem setScr_main : (s.setScr v).main = s.main := rfl
@[simp] theorem setScr_shadow : (s.setScr v).shadow = s.shadow := rfl
@[simp] theorem setScr_ix : (s.setScr v).ix = s.ix := rfl
@[simp] theorem setScr_iy : (s.setScr v).iy = s.iy := rfl
@[simp] theorem setScr_sp : (s.setScr v).sp = s.sp := rfl
@[simp] theorem setScr_pc : (s.setScr v).pc = s.pc := rfl
@[simp] theorem setScr_scr : (s.setScr v).scr = v := rfl
@[simp] theorem setScr_i : (s.setScr v).i = s.i := rfl
@[simp] theorem setScr_rLow : (s.setScr v).rLow = s.rLow := rfl
@[simp] theorem setScr_rB7 : (s.setScr v).rB7 = s.rB7 := rfl
@[simp] theorem setScr_iff1 : (s.setScr v).iff1 = s.iff1 := rfl
@[simp] theorem setScr_iff2 : (s.setScr v).iff2 = s.iff2 := rfl
@[simp] theorem setScr_im : (s.setScr v).im = s.im := rfl
@[simp] theorem setScr_halted : (s.setScr v).halted = s.halted := rfl
@[simp] theorem setScr_t : (s.setScr v).t = s.t := rfl
@[simp] theorem setScr_eiDelay : (s.setScr v).eiDelay = s.eiDelay := rfl
@[simp] theorem setScr_faulted : (s.setScr v).faulted = s.faulted := rfl
@[simp] theorem setScr_resetDone : (s.setScr v).resetDone = s.resetDone := rfl
@[simp] theorem setScr_mem : (s.setScr v).mem = s.mem := rfl
@[simp] theorem setScr_events : (s.setScr v).events = s.events := rfl
@[simp] theorem setScr_draws : (s.setScr v).draws = s.draws := rfl
@[simp] theorem setScr_answers : (s.setScr v).answers = s.answers := rfl
@[simp] theorem setScr_platform : (s.setScr v).platform = s.platform := rfl

end

/-! I -/

section
variable (s : State) (v : Byte)

@[simp] theorem setI_main : (s.setI v).main = s.main := rfl
@[simp] theorem setI_shadow : (s.setI v).shadow = s.shadow := rfl
@[simp] theorem setI_ix : (s.setI v).ix = s.ix := rfl
@[simp] theorem setI_iy : (s.setI v).iy = s.iy := rfl
@[simp] theorem setI_sp : (s.setI v).sp = s.sp := rfl
@[simp] theorem setI_pc : (s.setI v).pc = s.pc := rfl
@[simp] theorem setI_scr : (s.setI v).scr = s.scr := rfl
@[simp] theorem setI_i : (s.setI v).i = v := rfl
@[simp] theorem setI_rLow : (s.setI v).rLow = s.rLow := rfl
@[simp] theorem setI_rB7 : (s.setI v).rB7 = s.rB7 := rfl
@[simp] theorem setI_iff1 : (s.setI v).iff1 = s.iff1 := rfl
@[simp] theorem setI_iff2 : (s.setI v).iff2 = s.iff2 := rfl
@[simp] theorem setI_im : (s.setI v).im = s.im := rfl
@[simp] theorem setI_halted : (s.setI v).halted = s.halted := rfl
@[simp] theorem setI_t : (s.setI v).t = s.t := rfl
@[simp] theorem setI_eiDelay : (s.setI v).eiDelay = s.eiDelay := rfl
@[simp] theorem setI_faulted : (s.setI v).faulted = s.faulted := rfl
@[simp] theorem setI_resetDone : (s.setI v).resetDone = s.resetDone := rfl
@[simp] theorem setI_mem : (s.setI v).mem = s.mem := rfl
@[simp] theorem setI_events : (s.setI v).events = s.events := rfl
@[simp] theorem setI_draws : (s.setI v).draws = s.draws := rfl
@[simp] theorem setI_answers : (s.setI v).answers = s.answers := rfl
@[simp] theorem setI_platform : (s.setI v).platform = s.platform := rfl

end

/-! The flip-flops -/

section
variable (s : State) (v1 v2 : Bool)

@[simp] theorem setIffs_main : (s.setIffs v1 v2).main = s.main := rfl
@[simp] theorem setIffs_shadow : (s.setIffs v1 v2).shadow = s.shadow := rfl
@[simp] theorem setIffs_ix : (s.setIffs v1 v2).ix = s.ix := rfl
@[simp] theorem setIffs_iy : (s.setIffs v1 v2).iy = s.iy := rfl
@[simp] theorem setIffs_sp : (s.setIffs v1 v2).sp = s.sp := rfl
@[simp] theorem setIffs_pc : (s.setIffs v1 v2).pc = s.pc := rfl
@[simp] theorem setIffs_scr : (s.setIffs v1 v2).scr = s.scr := rfl
@[simp] theorem setIffs_i : (s.setIffs v1 v2).i = s.i := rfl
@[simp] theorem setIffs_rLow : (s.setIffs v1 v2).rLow = s.rLow := rfl
@[simp] theorem setIffs_rB7 : (s.setIffs v1 v2).rB7 = s.rB7 := rfl
@[simp] theorem setIffs_iff1 : (s.setIffs v1 v2).iff1 = v1 := rfl
@[simp] theorem setIffs_iff2 : (s.setIffs v1 v2).iff2 = v2 := rfl
@[simp] theorem setIffs_im : (s.setIffs v1 v2).im = s.im := rfl
@[simp] theorem setIffs_halted : (s.setIffs v1 v2).halted = s.halted := rfl
@[simp] theorem setIffs_t : (s.setIffs v1 v2).t = s.t := rfl
@[simp] theorem setIffs_eiDelay : (s.setIffs v1 v2).eiDelay = s.eiDelay := rfl
@[simp] theorem setIffs_faulted : (s.setIffs v1 v2).faulted = s.faulted := rfl
@[simp] theorem setIffs_resetDone : (s.setIffs v1 v2).resetDone = s.resetDone := rfl
@[simp] theorem setIffs_mem : (s.setIffs v1 v2).mem = s.mem := rfl
@[simp] theorem setIffs_events : (s.setIffs v1 v2).events = s.events := rfl
@[simp] theorem setIffs_draws : (s.setIffs v1 v2).draws = s.draws := rfl
@[simp] theorem setIffs_answers : (s.setIffs v1 v2).answers = s.answers := rfl
@[simp] theorem setIffs_platform : (s.setIffs v1 v2).platform = s.platform := rfl

end

/-! IM -/

section
variable (s : State) (m : Nat)

@[simp] theorem setIm_main : (s.setIm m).main = s.main := rfl
@[simp] theorem setIm_shadow : (s.setIm m).shadow = s.shadow := rfl
@[simp] theorem setIm_ix : (s.setIm m).ix = s.ix := rfl
@[simp] theorem setIm_iy : (s.setIm m).iy = s.iy := rfl
@[simp] theorem setIm_sp : (s.setIm m).sp = s.sp := rfl
@[simp] theorem setIm_pc : (s.setIm m).pc = s.pc := rfl
@[simp] theorem setIm_scr : (s.setIm m).scr = s.scr := rfl
@[simp] theorem setIm_i : (s.setIm m).i = s.i := rfl
@[simp] theorem setIm_rLow : (s.setIm m).rLow = s.rLow := rfl
@[simp] theorem setIm_rB7 : (s.setIm m).rB7 = s.rB7 := rfl
@[simp] theorem setIm_iff1 : (s.setIm m).iff1 = s.iff1 := rfl
@[simp] theorem setIm_iff2 : (s.setIm m).iff2 = s.iff2 := rfl
@[simp] theorem setIm_im : (s.setIm m).im = m := rfl
@[simp] theorem setIm_halted : (s.setIm m).halted = s.halted := rfl
@[simp] theorem setIm_t : (s.setIm m).t = s.t := rfl
@[simp] theorem setIm_eiDelay : (s.setIm m).eiDelay = s.eiDelay := rfl
@[simp] theorem setIm_faulted : (s.setIm m).faulted = s.faulted := rfl
@[simp] theorem setIm_resetDone : (s.setIm m).resetDone = s.resetDone := rfl
@[simp] theorem setIm_mem : (s.setIm m).mem = s.mem := rfl
@[simp] theorem setIm_events : (s.setIm m).events = s.events := rfl
@[simp] theorem setIm_draws : (s.setIm m).draws = s.draws := rfl
@[simp] theorem setIm_answers : (s.setIm m).answers = s.answers := rfl
@[simp] theorem setIm_platform : (s.setIm m).platform = s.platform := rfl

end

/-! Halted -/

section
variable (s : State) (v : Bool)

@[simp] theorem setHalted_main : (s.setHalted v).main = s.main := rfl
@[simp] theorem setHalted_shadow : (s.setHalted v).shadow = s.shadow := rfl
@[simp] theorem setHalted_ix : (s.setHalted v).ix = s.ix := rfl
@[simp] theorem setHalted_iy : (s.setHalted v).iy = s.iy := rfl
@[simp] theorem setHalted_sp : (s.setHalted v).sp = s.sp := rfl
@[simp] theorem setHalted_pc : (s.setHalted v).pc = s.pc := rfl
@[simp] theorem setHalted_scr : (s.setHalted v).scr = s.scr := rfl
@[simp] theorem setHalted_i : (s.setHalted v).i = s.i := rfl
@[simp] theorem setHalted_rLow : (s.setHalted v).rLow = s.rLow := rfl
@[simp] theorem setHalted_rB7 : (s.setHalted v).rB7 = s.rB7 := rfl
@[simp] theorem setHalted_iff1 : (s.setHalted v).iff1 = s.iff1 := rfl
@[simp] theorem setHalted_iff2 : (s.setHalted v).iff2 = s.iff2 := rfl
@[simp] theorem setHalted_im : (s.setHalted v).im = s.im := rfl
@[simp] theorem setHalted_halted : (s.setHalted v).halted = v := rfl
@[simp] theorem setHalted_t : (s.setHalted v).t = s.t := rfl
@[simp] theorem setHalted_eiDelay : (s.setHalted v).eiDelay = s.eiDelay := rfl
@[simp] theorem setHalted_faulted : (s.setHalted v).faulted = s.faulted := rfl
@[simp] theorem setHalted_resetDone : (s.setHalted v).resetDone = s.resetDone := rfl
@[simp] theorem setHalted_mem : (s.setHalted v).mem = s.mem := rfl
@[simp] theorem setHalted_events : (s.setHalted v).events = s.events := rfl
@[simp] theorem setHalted_draws : (s.setHalted v).draws = s.draws := rfl
@[simp] theorem setHalted_answers : (s.setHalted v).answers = s.answers := rfl
@[simp] theorem setHalted_platform : (s.setHalted v).platform = s.platform := rfl

end

/-! EIdelay -/

section
variable (s : State) (v : Bool)

@[simp] theorem setEiDelay_main : (s.setEiDelay v).main = s.main := rfl
@[simp] theorem setEiDelay_shadow : (s.setEiDelay v).shadow = s.shadow := rfl
@[simp] theorem setEiDelay_ix : (s.setEiDelay v).ix = s.ix := rfl
@[simp] theorem setEiDelay_iy : (s.setEiDelay v).iy = s.iy := rfl
@[simp] theorem setEiDelay_sp : (s.setEiDelay v).sp = s.sp := rfl
@[simp] theorem setEiDelay_pc : (s.setEiDelay v).pc = s.pc := rfl
@[simp] theorem setEiDelay_scr : (s.setEiDelay v).scr = s.scr := rfl
@[simp] theorem setEiDelay_i : (s.setEiDelay v).i = s.i := rfl
@[simp] theorem setEiDelay_rLow : (s.setEiDelay v).rLow = s.rLow := rfl
@[simp] theorem setEiDelay_rB7 : (s.setEiDelay v).rB7 = s.rB7 := rfl
@[simp] theorem setEiDelay_iff1 : (s.setEiDelay v).iff1 = s.iff1 := rfl
@[simp] theorem setEiDelay_iff2 : (s.setEiDelay v).iff2 = s.iff2 := rfl
@[simp] theorem setEiDelay_im : (s.setEiDelay v).im = s.im := rfl
@[simp] theorem setEiDelay_halted : (s.setEiDelay v).halted = s.halted := rfl
@[simp] theorem setEiDelay_t : (s.setEiDelay v).t = s.t := rfl
@[simp] theorem setEiDelay_eiDelay : (s.setEiDelay v).eiDelay = v := rfl
@[simp] theorem setEiDelay_faulted : (s.setEiDelay v).faulted = s.faulted := rfl
@[simp] theorem setEiDelay_resetDone : (s.setEiDelay v).resetDone = s.resetDone := rfl
@[simp] theorem setEiDelay_mem : (s.setEiDelay v).mem = s.mem := rfl
@[simp] theorem setEiDelay_events : (s.setEiDelay v).events = s.events := rfl
@[simp] theorem setEiDelay_draws : (s.setEiDelay v).draws = s.draws := rfl
@[simp] theorem setEiDelay_answers : (s.setEiDelay v).answers = s.answers := rfl
@[simp] theorem setEiDelay_platform : (s.setEiDelay v).platform = s.platform := rfl

end

/-! R -/

section
variable (s : State) (v : Byte)

@[simp] theorem setR_main : (s.setR v).main = s.main := rfl
@[simp] theorem setR_shadow : (s.setR v).shadow = s.shadow := rfl
@[simp] theorem setR_ix : (s.setR v).ix = s.ix := rfl
@[simp] theorem setR_iy : (s.setR v).iy = s.iy := rfl
@[simp] theorem setR_sp : (s.setR v).sp = s.sp := rfl
@[simp] theorem setR_pc : (s.setR v).pc = s.pc := rfl
@[simp] theorem setR_scr : (s.setR v).scr = s.scr := rfl
@[simp] theorem setR_i : (s.setR v).i = s.i := rfl
@[simp] theorem setR_rLow : (s.setR v).rLow = v.extractLsb' 0 7 := rfl
@[simp] theorem setR_rB7 : (s.setR v).rB7 = v.getLsbD 7 := rfl
@[simp] theorem setR_iff1 : (s.setR v).iff1 = s.iff1 := rfl
@[simp] theorem setR_iff2 : (s.setR v).iff2 = s.iff2 := rfl
@[simp] theorem setR_im : (s.setR v).im = s.im := rfl
@[simp] theorem setR_halted : (s.setR v).halted = s.halted := rfl
@[simp] theorem setR_t : (s.setR v).t = s.t := rfl
@[simp] theorem setR_eiDelay : (s.setR v).eiDelay = s.eiDelay := rfl
@[simp] theorem setR_faulted : (s.setR v).faulted = s.faulted := rfl
@[simp] theorem setR_resetDone : (s.setR v).resetDone = s.resetDone := rfl
@[simp] theorem setR_mem : (s.setR v).mem = s.mem := rfl
@[simp] theorem setR_events : (s.setR v).events = s.events := rfl
@[simp] theorem setR_draws : (s.setR v).draws = s.draws := rfl
@[simp] theorem setR_answers : (s.setR v).answers = s.answers := rfl
@[simp] theorem setR_platform : (s.setR v).platform = s.platform := rfl

end

/-! The refresh counter -/

section
variable (s : State)

@[simp] theorem bumpR_main : (s.bumpR).main = s.main := rfl
@[simp] theorem bumpR_shadow : (s.bumpR).shadow = s.shadow := rfl
@[simp] theorem bumpR_ix : (s.bumpR).ix = s.ix := rfl
@[simp] theorem bumpR_iy : (s.bumpR).iy = s.iy := rfl
@[simp] theorem bumpR_sp : (s.bumpR).sp = s.sp := rfl
@[simp] theorem bumpR_pc : (s.bumpR).pc = s.pc := rfl
@[simp] theorem bumpR_scr : (s.bumpR).scr = s.scr := rfl
@[simp] theorem bumpR_i : (s.bumpR).i = s.i := rfl
@[simp] theorem bumpR_rLow : (s.bumpR).rLow = s.rLow + 1 := rfl
@[simp] theorem bumpR_rB7 : (s.bumpR).rB7 = s.rB7 := rfl
@[simp] theorem bumpR_iff1 : (s.bumpR).iff1 = s.iff1 := rfl
@[simp] theorem bumpR_iff2 : (s.bumpR).iff2 = s.iff2 := rfl
@[simp] theorem bumpR_im : (s.bumpR).im = s.im := rfl
@[simp] theorem bumpR_halted : (s.bumpR).halted = s.halted := rfl
@[simp] theorem bumpR_t : (s.bumpR).t = s.t := rfl
@[simp] theorem bumpR_eiDelay : (s.bumpR).eiDelay = s.eiDelay := rfl
@[simp] theorem bumpR_faulted : (s.bumpR).faulted = s.faulted := rfl
@[simp] theorem bumpR_resetDone : (s.bumpR).resetDone = s.resetDone := rfl
@[simp] theorem bumpR_mem : (s.bumpR).mem = s.mem := rfl
@[simp] theorem bumpR_events : (s.bumpR).events = s.events := rfl
@[simp] theorem bumpR_draws : (s.bumpR).draws = s.draws := rfl
@[simp] theorem bumpR_answers : (s.bumpR).answers = s.answers := rfl
@[simp] theorem bumpR_platform : (s.bumpR).platform = s.platform := rfl

end

/-! A draw -/

section
variable (s : State)

@[simp] theorem draw_main : (s.draw).main = s.main := rfl
@[simp] theorem draw_shadow : (s.draw).shadow = s.shadow := rfl
@[simp] theorem draw_ix : (s.draw).ix = s.ix := rfl
@[simp] theorem draw_iy : (s.draw).iy = s.iy := rfl
@[simp] theorem draw_sp : (s.draw).sp = s.sp := rfl
@[simp] theorem draw_pc : (s.draw).pc = s.pc := rfl
@[simp] theorem draw_scr : (s.draw).scr = s.scr := rfl
@[simp] theorem draw_i : (s.draw).i = s.i := rfl
@[simp] theorem draw_rLow : (s.draw).rLow = s.rLow := rfl
@[simp] theorem draw_rB7 : (s.draw).rB7 = s.rB7 := rfl
@[simp] theorem draw_iff1 : (s.draw).iff1 = s.iff1 := rfl
@[simp] theorem draw_iff2 : (s.draw).iff2 = s.iff2 := rfl
@[simp] theorem draw_im : (s.draw).im = s.im := rfl
@[simp] theorem draw_halted : (s.draw).halted = s.halted := rfl
@[simp] theorem draw_t : (s.draw).t = s.t := rfl
@[simp] theorem draw_eiDelay : (s.draw).eiDelay = s.eiDelay := rfl
@[simp] theorem draw_faulted : (s.draw).faulted = s.faulted := rfl
@[simp] theorem draw_resetDone : (s.draw).resetDone = s.resetDone := rfl
@[simp] theorem draw_mem : (s.draw).mem = s.mem := rfl
@[simp] theorem draw_events : (s.draw).events = s.events := rfl
@[simp] theorem draw_draws : (s.draw).draws = s.draws + 1 := rfl
@[simp] theorem draw_answers : (s.draw).answers = s.answers.tail := rfl
@[simp] theorem draw_platform : (s.draw).platform = s.platform := rfl

end

/-! The event log -/

section
variable (s : State) (e : PortEvent)

@[simp] theorem logEvent_main : (s.logEvent e).main = s.main := rfl
@[simp] theorem logEvent_shadow : (s.logEvent e).shadow = s.shadow := rfl
@[simp] theorem logEvent_ix : (s.logEvent e).ix = s.ix := rfl
@[simp] theorem logEvent_iy : (s.logEvent e).iy = s.iy := rfl
@[simp] theorem logEvent_sp : (s.logEvent e).sp = s.sp := rfl
@[simp] theorem logEvent_pc : (s.logEvent e).pc = s.pc := rfl
@[simp] theorem logEvent_scr : (s.logEvent e).scr = s.scr := rfl
@[simp] theorem logEvent_i : (s.logEvent e).i = s.i := rfl
@[simp] theorem logEvent_rLow : (s.logEvent e).rLow = s.rLow := rfl
@[simp] theorem logEvent_rB7 : (s.logEvent e).rB7 = s.rB7 := rfl
@[simp] theorem logEvent_iff1 : (s.logEvent e).iff1 = s.iff1 := rfl
@[simp] theorem logEvent_iff2 : (s.logEvent e).iff2 = s.iff2 := rfl
@[simp] theorem logEvent_im : (s.logEvent e).im = s.im := rfl
@[simp] theorem logEvent_halted : (s.logEvent e).halted = s.halted := rfl
@[simp] theorem logEvent_t : (s.logEvent e).t = s.t := rfl
@[simp] theorem logEvent_eiDelay : (s.logEvent e).eiDelay = s.eiDelay := rfl
@[simp] theorem logEvent_faulted : (s.logEvent e).faulted = s.faulted := rfl
@[simp] theorem logEvent_resetDone : (s.logEvent e).resetDone = s.resetDone := rfl
@[simp] theorem logEvent_mem : (s.logEvent e).mem = s.mem := rfl
@[simp] theorem logEvent_events : (s.logEvent e).events = s.events ++ [e] := rfl
@[simp] theorem logEvent_draws : (s.logEvent e).draws = s.draws := rfl
@[simp] theorem logEvent_answers : (s.logEvent e).answers = s.answers := rfl
@[simp] theorem logEvent_platform : (s.logEvent e).platform = s.platform := rfl

end

/-! A fault -/

section
variable (s : State) (r : Fault)

@[simp] theorem raise_main : (s.raise r).main = s.main := rfl
@[simp] theorem raise_shadow : (s.raise r).shadow = s.shadow := rfl
@[simp] theorem raise_ix : (s.raise r).ix = s.ix := rfl
@[simp] theorem raise_iy : (s.raise r).iy = s.iy := rfl
@[simp] theorem raise_sp : (s.raise r).sp = s.sp := rfl
@[simp] theorem raise_pc : (s.raise r).pc = s.pc := rfl
@[simp] theorem raise_scr : (s.raise r).scr = s.scr := rfl
@[simp] theorem raise_i : (s.raise r).i = s.i := rfl
@[simp] theorem raise_rLow : (s.raise r).rLow = s.rLow := rfl
@[simp] theorem raise_rB7 : (s.raise r).rB7 = s.rB7 := rfl
@[simp] theorem raise_iff1 : (s.raise r).iff1 = s.iff1 := rfl
@[simp] theorem raise_iff2 : (s.raise r).iff2 = s.iff2 := rfl
@[simp] theorem raise_im : (s.raise r).im = s.im := rfl
@[simp] theorem raise_halted : (s.raise r).halted = s.halted := rfl
@[simp] theorem raise_t : (s.raise r).t = s.t := rfl
@[simp] theorem raise_eiDelay : (s.raise r).eiDelay = s.eiDelay := rfl
@[simp] theorem raise_faulted : (s.raise r).faulted = some r := rfl
@[simp] theorem raise_resetDone : (s.raise r).resetDone = s.resetDone := rfl
@[simp] theorem raise_mem : (s.raise r).mem = s.mem := rfl
@[simp] theorem raise_events : (s.raise r).events = s.events := rfl
@[simp] theorem raise_draws : (s.raise r).draws = s.draws := rfl
@[simp] theorem raise_answers : (s.raise r).answers = s.answers := rfl
@[simp] theorem raise_platform : (s.raise r).platform = s.platform := rfl

end

/-! An index register -/

section
variable (s : State) (xy : XY) (v : IndexReg)

@[simp] theorem setIndex_main : (s.setIndex xy v).main = s.main := by cases xy <;> rfl
@[simp] theorem setIndex_shadow : (s.setIndex xy v).shadow = s.shadow := by cases xy <;> rfl
@[simp] theorem setIndex_sp : (s.setIndex xy v).sp = s.sp := by cases xy <;> rfl
@[simp] theorem setIndex_pc : (s.setIndex xy v).pc = s.pc := by cases xy <;> rfl
@[simp] theorem setIndex_scr : (s.setIndex xy v).scr = s.scr := by cases xy <;> rfl
@[simp] theorem setIndex_i : (s.setIndex xy v).i = s.i := by cases xy <;> rfl
@[simp] theorem setIndex_rLow : (s.setIndex xy v).rLow = s.rLow := by cases xy <;> rfl
@[simp] theorem setIndex_rB7 : (s.setIndex xy v).rB7 = s.rB7 := by cases xy <;> rfl
@[simp] theorem setIndex_iff1 : (s.setIndex xy v).iff1 = s.iff1 := by cases xy <;> rfl
@[simp] theorem setIndex_iff2 : (s.setIndex xy v).iff2 = s.iff2 := by cases xy <;> rfl
@[simp] theorem setIndex_im : (s.setIndex xy v).im = s.im := by cases xy <;> rfl
@[simp] theorem setIndex_halted : (s.setIndex xy v).halted = s.halted := by cases xy <;> rfl
@[simp] theorem setIndex_t : (s.setIndex xy v).t = s.t := by cases xy <;> rfl
@[simp] theorem setIndex_eiDelay : (s.setIndex xy v).eiDelay = s.eiDelay := by cases xy <;> rfl
@[simp] theorem setIndex_faulted : (s.setIndex xy v).faulted = s.faulted := by cases xy <;> rfl
@[simp] theorem setIndex_resetDone : (s.setIndex xy v).resetDone = s.resetDone := by cases xy <;> rfl
@[simp] theorem setIndex_mem : (s.setIndex xy v).mem = s.mem := by cases xy <;> rfl
@[simp] theorem setIndex_events : (s.setIndex xy v).events = s.events := by cases xy <;> rfl
@[simp] theorem setIndex_draws : (s.setIndex xy v).draws = s.draws := by cases xy <;> rfl
@[simp] theorem setIndex_answers : (s.setIndex xy v).answers = s.answers := by cases xy <;> rfl
@[simp] theorem setIndex_platform : (s.setIndex xy v).platform = s.platform := by cases xy <;> rfl

end

/-! Composite updates: `ticks` and the calls over it change T alone; a read draws where the address is a device; a write
changes memory and T alone. -/

/-! Timing annotations -/

section
variable (s : State) (k : BusKind) (a : Word) (n : Nat)

@[simp] theorem ticks_main : (s.ticks k a n).main = s.main := by induction n with
  | zero => rfl
  | succ n ih => simp [State.ticks, ih]
@[simp] theorem ticks_shadow : (s.ticks k a n).shadow = s.shadow := by induction n with
  | zero => rfl
  | succ n ih => simp [State.ticks, ih]
@[simp] theorem ticks_ix : (s.ticks k a n).ix = s.ix := by induction n with
  | zero => rfl
  | succ n ih => simp [State.ticks, ih]
@[simp] theorem ticks_iy : (s.ticks k a n).iy = s.iy := by induction n with
  | zero => rfl
  | succ n ih => simp [State.ticks, ih]
@[simp] theorem ticks_sp : (s.ticks k a n).sp = s.sp := by induction n with
  | zero => rfl
  | succ n ih => simp [State.ticks, ih]
@[simp] theorem ticks_pc : (s.ticks k a n).pc = s.pc := by induction n with
  | zero => rfl
  | succ n ih => simp [State.ticks, ih]
@[simp] theorem ticks_scr : (s.ticks k a n).scr = s.scr := by induction n with
  | zero => rfl
  | succ n ih => simp [State.ticks, ih]
@[simp] theorem ticks_i : (s.ticks k a n).i = s.i := by induction n with
  | zero => rfl
  | succ n ih => simp [State.ticks, ih]
@[simp] theorem ticks_rLow : (s.ticks k a n).rLow = s.rLow := by induction n with
  | zero => rfl
  | succ n ih => simp [State.ticks, ih]
@[simp] theorem ticks_rB7 : (s.ticks k a n).rB7 = s.rB7 := by induction n with
  | zero => rfl
  | succ n ih => simp [State.ticks, ih]
@[simp] theorem ticks_iff1 : (s.ticks k a n).iff1 = s.iff1 := by induction n with
  | zero => rfl
  | succ n ih => simp [State.ticks, ih]
@[simp] theorem ticks_iff2 : (s.ticks k a n).iff2 = s.iff2 := by induction n with
  | zero => rfl
  | succ n ih => simp [State.ticks, ih]
@[simp] theorem ticks_im : (s.ticks k a n).im = s.im := by induction n with
  | zero => rfl
  | succ n ih => simp [State.ticks, ih]
@[simp] theorem ticks_halted : (s.ticks k a n).halted = s.halted := by induction n with
  | zero => rfl
  | succ n ih => simp [State.ticks, ih]
@[simp] theorem ticks_eiDelay : (s.ticks k a n).eiDelay = s.eiDelay := by induction n with
  | zero => rfl
  | succ n ih => simp [State.ticks, ih]
@[simp] theorem ticks_faulted : (s.ticks k a n).faulted = s.faulted := by induction n with
  | zero => rfl
  | succ n ih => simp [State.ticks, ih]
@[simp] theorem ticks_resetDone : (s.ticks k a n).resetDone = s.resetDone := by induction n with
  | zero => rfl
  | succ n ih => simp [State.ticks, ih]
@[simp] theorem ticks_mem : (s.ticks k a n).mem = s.mem := by induction n with
  | zero => rfl
  | succ n ih => simp [State.ticks, ih]
@[simp] theorem ticks_events : (s.ticks k a n).events = s.events := by induction n with
  | zero => rfl
  | succ n ih => simp [State.ticks, ih]
@[simp] theorem ticks_draws : (s.ticks k a n).draws = s.draws := by induction n with
  | zero => rfl
  | succ n ih => simp [State.ticks, ih]
@[simp] theorem ticks_answers : (s.ticks k a n).answers = s.answers := by induction n with
  | zero => rfl
  | succ n ih => simp [State.ticks, ih]
@[simp] theorem ticks_platform : (s.ticks k a n).platform = s.platform := by induction n with
  | zero => rfl
  | succ n ih => simp [State.ticks, ih]

end

/-! Read annotations -/

section
variable (s : State) (a : Word) (n : Nat)

@[simp] theorem noMreq_main : (s.noMreq a n).main = s.main := by simp [State.noMreq]
@[simp] theorem noMreq_shadow : (s.noMreq a n).shadow = s.shadow := by simp [State.noMreq]
@[simp] theorem noMreq_ix : (s.noMreq a n).ix = s.ix := by simp [State.noMreq]
@[simp] theorem noMreq_iy : (s.noMreq a n).iy = s.iy := by simp [State.noMreq]
@[simp] theorem noMreq_sp : (s.noMreq a n).sp = s.sp := by simp [State.noMreq]
@[simp] theorem noMreq_pc : (s.noMreq a n).pc = s.pc := by simp [State.noMreq]
@[simp] theorem noMreq_scr : (s.noMreq a n).scr = s.scr := by simp [State.noMreq]
@[simp] theorem noMreq_i : (s.noMreq a n).i = s.i := by simp [State.noMreq]
@[simp] theorem noMreq_rLow : (s.noMreq a n).rLow = s.rLow := by simp [State.noMreq]
@[simp] theorem noMreq_rB7 : (s.noMreq a n).rB7 = s.rB7 := by simp [State.noMreq]
@[simp] theorem noMreq_iff1 : (s.noMreq a n).iff1 = s.iff1 := by simp [State.noMreq]
@[simp] theorem noMreq_iff2 : (s.noMreq a n).iff2 = s.iff2 := by simp [State.noMreq]
@[simp] theorem noMreq_im : (s.noMreq a n).im = s.im := by simp [State.noMreq]
@[simp] theorem noMreq_halted : (s.noMreq a n).halted = s.halted := by simp [State.noMreq]
@[simp] theorem noMreq_eiDelay : (s.noMreq a n).eiDelay = s.eiDelay := by simp [State.noMreq]
@[simp] theorem noMreq_faulted : (s.noMreq a n).faulted = s.faulted := by simp [State.noMreq]
@[simp] theorem noMreq_resetDone : (s.noMreq a n).resetDone = s.resetDone := by simp [State.noMreq]
@[simp] theorem noMreq_mem : (s.noMreq a n).mem = s.mem := by simp [State.noMreq]
@[simp] theorem noMreq_events : (s.noMreq a n).events = s.events := by simp [State.noMreq]
@[simp] theorem noMreq_draws : (s.noMreq a n).draws = s.draws := by simp [State.noMreq]
@[simp] theorem noMreq_answers : (s.noMreq a n).answers = s.answers := by simp [State.noMreq]
@[simp] theorem noMreq_platform : (s.noMreq a n).platform = s.platform := by simp [State.noMreq]

end

/-! Write annotations -/

section
variable (s : State) (a : Word) (n : Nat)

@[simp] theorem noMreqWrite_main : (s.noMreqWrite a n).main = s.main := by simp [State.noMreqWrite]
@[simp] theorem noMreqWrite_shadow : (s.noMreqWrite a n).shadow = s.shadow := by simp [State.noMreqWrite]
@[simp] theorem noMreqWrite_ix : (s.noMreqWrite a n).ix = s.ix := by simp [State.noMreqWrite]
@[simp] theorem noMreqWrite_iy : (s.noMreqWrite a n).iy = s.iy := by simp [State.noMreqWrite]
@[simp] theorem noMreqWrite_sp : (s.noMreqWrite a n).sp = s.sp := by simp [State.noMreqWrite]
@[simp] theorem noMreqWrite_pc : (s.noMreqWrite a n).pc = s.pc := by simp [State.noMreqWrite]
@[simp] theorem noMreqWrite_scr : (s.noMreqWrite a n).scr = s.scr := by simp [State.noMreqWrite]
@[simp] theorem noMreqWrite_i : (s.noMreqWrite a n).i = s.i := by simp [State.noMreqWrite]
@[simp] theorem noMreqWrite_rLow : (s.noMreqWrite a n).rLow = s.rLow := by simp [State.noMreqWrite]
@[simp] theorem noMreqWrite_rB7 : (s.noMreqWrite a n).rB7 = s.rB7 := by simp [State.noMreqWrite]
@[simp] theorem noMreqWrite_iff1 : (s.noMreqWrite a n).iff1 = s.iff1 := by simp [State.noMreqWrite]
@[simp] theorem noMreqWrite_iff2 : (s.noMreqWrite a n).iff2 = s.iff2 := by simp [State.noMreqWrite]
@[simp] theorem noMreqWrite_im : (s.noMreqWrite a n).im = s.im := by simp [State.noMreqWrite]
@[simp] theorem noMreqWrite_halted : (s.noMreqWrite a n).halted = s.halted := by simp [State.noMreqWrite]
@[simp] theorem noMreqWrite_eiDelay : (s.noMreqWrite a n).eiDelay = s.eiDelay := by simp [State.noMreqWrite]
@[simp] theorem noMreqWrite_faulted : (s.noMreqWrite a n).faulted = s.faulted := by simp [State.noMreqWrite]
@[simp] theorem noMreqWrite_resetDone : (s.noMreqWrite a n).resetDone = s.resetDone := by simp [State.noMreqWrite]
@[simp] theorem noMreqWrite_mem : (s.noMreqWrite a n).mem = s.mem := by simp [State.noMreqWrite]
@[simp] theorem noMreqWrite_events : (s.noMreqWrite a n).events = s.events := by simp [State.noMreqWrite]
@[simp] theorem noMreqWrite_draws : (s.noMreqWrite a n).draws = s.draws := by simp [State.noMreqWrite]
@[simp] theorem noMreqWrite_answers : (s.noMreqWrite a n).answers = s.answers := by simp [State.noMreqWrite]
@[simp] theorem noMreqWrite_platform : (s.noMreqWrite a n).platform = s.platform := by simp [State.noMreqWrite]

end

/-! A draw at a device address -/

section
variable (s : State) (a : Word)

@[simp] theorem drawAt_main : (s.drawAt a).main = s.main := by unfold State.drawAt; split <;> rfl
@[simp] theorem drawAt_shadow : (s.drawAt a).shadow = s.shadow := by unfold State.drawAt; split <;> rfl
@[simp] theorem drawAt_ix : (s.drawAt a).ix = s.ix := by unfold State.drawAt; split <;> rfl
@[simp] theorem drawAt_iy : (s.drawAt a).iy = s.iy := by unfold State.drawAt; split <;> rfl
@[simp] theorem drawAt_sp : (s.drawAt a).sp = s.sp := by unfold State.drawAt; split <;> rfl
@[simp] theorem drawAt_pc : (s.drawAt a).pc = s.pc := by unfold State.drawAt; split <;> rfl
@[simp] theorem drawAt_scr : (s.drawAt a).scr = s.scr := by unfold State.drawAt; split <;> rfl
@[simp] theorem drawAt_i : (s.drawAt a).i = s.i := by unfold State.drawAt; split <;> rfl
@[simp] theorem drawAt_rLow : (s.drawAt a).rLow = s.rLow := by unfold State.drawAt; split <;> rfl
@[simp] theorem drawAt_rB7 : (s.drawAt a).rB7 = s.rB7 := by unfold State.drawAt; split <;> rfl
@[simp] theorem drawAt_iff1 : (s.drawAt a).iff1 = s.iff1 := by unfold State.drawAt; split <;> rfl
@[simp] theorem drawAt_iff2 : (s.drawAt a).iff2 = s.iff2 := by unfold State.drawAt; split <;> rfl
@[simp] theorem drawAt_im : (s.drawAt a).im = s.im := by unfold State.drawAt; split <;> rfl
@[simp] theorem drawAt_halted : (s.drawAt a).halted = s.halted := by unfold State.drawAt; split <;> rfl
@[simp] theorem drawAt_t : (s.drawAt a).t = s.t := by unfold State.drawAt; split <;> rfl
@[simp] theorem drawAt_eiDelay : (s.drawAt a).eiDelay = s.eiDelay := by unfold State.drawAt; split <;> rfl
@[simp] theorem drawAt_faulted : (s.drawAt a).faulted = s.faulted := by unfold State.drawAt; split <;> rfl
@[simp] theorem drawAt_resetDone : (s.drawAt a).resetDone = s.resetDone := by unfold State.drawAt; split <;> rfl
@[simp] theorem drawAt_mem : (s.drawAt a).mem = s.mem := by unfold State.drawAt; split <;> rfl
@[simp] theorem drawAt_events : (s.drawAt a).events = s.events := by unfold State.drawAt; split <;> rfl
@[simp] theorem drawAt_platform : (s.drawAt a).platform = s.platform := by unfold State.drawAt; split <;> rfl

end

/-! A memory read -/

section
variable (s : State) (a : Word)

@[simp] theorem afterRead_main : (s.afterRead a).main = s.main := by simp [State.afterRead]
@[simp] theorem afterRead_shadow : (s.afterRead a).shadow = s.shadow := by simp [State.afterRead]
@[simp] theorem afterRead_ix : (s.afterRead a).ix = s.ix := by simp [State.afterRead]
@[simp] theorem afterRead_iy : (s.afterRead a).iy = s.iy := by simp [State.afterRead]
@[simp] theorem afterRead_sp : (s.afterRead a).sp = s.sp := by simp [State.afterRead]
@[simp] theorem afterRead_pc : (s.afterRead a).pc = s.pc := by simp [State.afterRead]
@[simp] theorem afterRead_scr : (s.afterRead a).scr = s.scr := by simp [State.afterRead]
@[simp] theorem afterRead_i : (s.afterRead a).i = s.i := by simp [State.afterRead]
@[simp] theorem afterRead_rLow : (s.afterRead a).rLow = s.rLow := by simp [State.afterRead]
@[simp] theorem afterRead_rB7 : (s.afterRead a).rB7 = s.rB7 := by simp [State.afterRead]
@[simp] theorem afterRead_iff1 : (s.afterRead a).iff1 = s.iff1 := by simp [State.afterRead]
@[simp] theorem afterRead_iff2 : (s.afterRead a).iff2 = s.iff2 := by simp [State.afterRead]
@[simp] theorem afterRead_im : (s.afterRead a).im = s.im := by simp [State.afterRead]
@[simp] theorem afterRead_halted : (s.afterRead a).halted = s.halted := by simp [State.afterRead]
@[simp] theorem afterRead_t : (s.afterRead a).t = (s.tick .memRead a 3).t := by simp [State.afterRead]
@[simp] theorem afterRead_eiDelay : (s.afterRead a).eiDelay = s.eiDelay := by simp [State.afterRead]
@[simp] theorem afterRead_faulted : (s.afterRead a).faulted = s.faulted := by simp [State.afterRead]
@[simp] theorem afterRead_resetDone : (s.afterRead a).resetDone = s.resetDone := by simp [State.afterRead]
@[simp] theorem afterRead_mem : (s.afterRead a).mem = s.mem := by simp [State.afterRead]
@[simp] theorem afterRead_events : (s.afterRead a).events = s.events := by simp [State.afterRead]
@[simp] theorem afterRead_draws : (s.afterRead a).draws = (s.drawAt a).draws := by
  simp only [State.afterRead, State.drawAt, State.kindAt, tick_platform]
  split <;> rfl
@[simp] theorem afterRead_answers : (s.afterRead a).answers = (s.drawAt a).answers := by
  simp only [State.afterRead, State.drawAt, State.kindAt, tick_platform]
  split <;> rfl
@[simp] theorem afterRead_platform : (s.afterRead a).platform = s.platform := by simp [State.afterRead]

end

/-! The write policy -/

section
variable (s : State) (a : Word) (v : Byte)

@[simp] theorem storeByte_main : (s.storeByte a v).main = s.main := by unfold State.storeByte; split <;> rfl
@[simp] theorem storeByte_shadow : (s.storeByte a v).shadow = s.shadow := by unfold State.storeByte; split <;> rfl
@[simp] theorem storeByte_ix : (s.storeByte a v).ix = s.ix := by unfold State.storeByte; split <;> rfl
@[simp] theorem storeByte_iy : (s.storeByte a v).iy = s.iy := by unfold State.storeByte; split <;> rfl
@[simp] theorem storeByte_sp : (s.storeByte a v).sp = s.sp := by unfold State.storeByte; split <;> rfl
@[simp] theorem storeByte_pc : (s.storeByte a v).pc = s.pc := by unfold State.storeByte; split <;> rfl
@[simp] theorem storeByte_scr : (s.storeByte a v).scr = s.scr := by unfold State.storeByte; split <;> rfl
@[simp] theorem storeByte_i : (s.storeByte a v).i = s.i := by unfold State.storeByte; split <;> rfl
@[simp] theorem storeByte_rLow : (s.storeByte a v).rLow = s.rLow := by unfold State.storeByte; split <;> rfl
@[simp] theorem storeByte_rB7 : (s.storeByte a v).rB7 = s.rB7 := by unfold State.storeByte; split <;> rfl
@[simp] theorem storeByte_iff1 : (s.storeByte a v).iff1 = s.iff1 := by unfold State.storeByte; split <;> rfl
@[simp] theorem storeByte_iff2 : (s.storeByte a v).iff2 = s.iff2 := by unfold State.storeByte; split <;> rfl
@[simp] theorem storeByte_im : (s.storeByte a v).im = s.im := by unfold State.storeByte; split <;> rfl
@[simp] theorem storeByte_halted : (s.storeByte a v).halted = s.halted := by unfold State.storeByte; split <;> rfl
@[simp] theorem storeByte_t : (s.storeByte a v).t = s.t := by unfold State.storeByte; split <;> rfl
@[simp] theorem storeByte_eiDelay : (s.storeByte a v).eiDelay = s.eiDelay := by unfold State.storeByte; split <;> rfl
@[simp] theorem storeByte_faulted : (s.storeByte a v).faulted = s.faulted := by unfold State.storeByte; split <;> rfl
@[simp] theorem storeByte_resetDone : (s.storeByte a v).resetDone = s.resetDone := by unfold State.storeByte; split <;> rfl
@[simp] theorem storeByte_events : (s.storeByte a v).events = s.events := by unfold State.storeByte; split <;> rfl
@[simp] theorem storeByte_draws : (s.storeByte a v).draws = s.draws := by unfold State.storeByte; split <;> rfl
@[simp] theorem storeByte_answers : (s.storeByte a v).answers = s.answers := by unfold State.storeByte; split <;> rfl
@[simp] theorem storeByte_platform : (s.storeByte a v).platform = s.platform := by unfold State.storeByte; split <;> rfl

end

/-! A memory write -/

section
variable (s : State) (a : Word) (v : Byte)

@[simp] theorem memWrite_main : (s.memWrite a v).main = s.main := by simp [State.memWrite]
@[simp] theorem memWrite_shadow : (s.memWrite a v).shadow = s.shadow := by simp [State.memWrite]
@[simp] theorem memWrite_ix : (s.memWrite a v).ix = s.ix := by simp [State.memWrite]
@[simp] theorem memWrite_iy : (s.memWrite a v).iy = s.iy := by simp [State.memWrite]
@[simp] theorem memWrite_sp : (s.memWrite a v).sp = s.sp := by simp [State.memWrite]
@[simp] theorem memWrite_pc : (s.memWrite a v).pc = s.pc := by simp [State.memWrite]
@[simp] theorem memWrite_scr : (s.memWrite a v).scr = s.scr := by simp [State.memWrite]
@[simp] theorem memWrite_i : (s.memWrite a v).i = s.i := by simp [State.memWrite]
@[simp] theorem memWrite_rLow : (s.memWrite a v).rLow = s.rLow := by simp [State.memWrite]
@[simp] theorem memWrite_rB7 : (s.memWrite a v).rB7 = s.rB7 := by simp [State.memWrite]
@[simp] theorem memWrite_iff1 : (s.memWrite a v).iff1 = s.iff1 := by simp [State.memWrite]
@[simp] theorem memWrite_iff2 : (s.memWrite a v).iff2 = s.iff2 := by simp [State.memWrite]
@[simp] theorem memWrite_im : (s.memWrite a v).im = s.im := by simp [State.memWrite]
@[simp] theorem memWrite_halted : (s.memWrite a v).halted = s.halted := by simp [State.memWrite]
@[simp] theorem memWrite_t : (s.memWrite a v).t = (s.tick .memWrite a 3).t := by simp [State.memWrite]
@[simp] theorem memWrite_eiDelay : (s.memWrite a v).eiDelay = s.eiDelay := by simp [State.memWrite]
@[simp] theorem memWrite_faulted : (s.memWrite a v).faulted = s.faulted := by simp [State.memWrite]
@[simp] theorem memWrite_resetDone : (s.memWrite a v).resetDone = s.resetDone := by simp [State.memWrite]
@[simp] theorem memWrite_mem : (s.memWrite a v).mem = (s.storeByte a v).mem := by
  simp only [State.memWrite, State.storeByte, State.kindAt, tick_platform, tick_mem]
  split <;> rfl
@[simp] theorem memWrite_events : (s.memWrite a v).events = s.events := by simp [State.memWrite]
@[simp] theorem memWrite_draws : (s.memWrite a v).draws = s.draws := by simp [State.memWrite]
@[simp] theorem memWrite_answers : (s.memWrite a v).answers = s.answers := by simp [State.memWrite]
@[simp] theorem memWrite_platform : (s.memWrite a v).platform = s.platform := by simp [State.memWrite]

end

/-! An opcode fetch -/

section
variable (s : State)

@[simp] theorem fetchOp_main : (s.fetchOp).main = s.main := by simp [State.fetchOp]
@[simp] theorem fetchOp_shadow : (s.fetchOp).shadow = s.shadow := by simp [State.fetchOp]
@[simp] theorem fetchOp_ix : (s.fetchOp).ix = s.ix := by simp [State.fetchOp]
@[simp] theorem fetchOp_iy : (s.fetchOp).iy = s.iy := by simp [State.fetchOp]
@[simp] theorem fetchOp_sp : (s.fetchOp).sp = s.sp := by simp [State.fetchOp]
@[simp] theorem fetchOp_pc : (s.fetchOp).pc = s.pc + 1 := by simp [State.fetchOp]
@[simp] theorem fetchOp_scr : (s.fetchOp).scr = s.scr := by simp [State.fetchOp]
@[simp] theorem fetchOp_i : (s.fetchOp).i = s.i := by simp [State.fetchOp]
@[simp] theorem fetchOp_rLow : (s.fetchOp).rLow = s.rLow + 1 := by simp [State.fetchOp]
@[simp] theorem fetchOp_rB7 : (s.fetchOp).rB7 = s.rB7 := by simp [State.fetchOp]
@[simp] theorem fetchOp_iff1 : (s.fetchOp).iff1 = s.iff1 := by simp [State.fetchOp]
@[simp] theorem fetchOp_iff2 : (s.fetchOp).iff2 = s.iff2 := by simp [State.fetchOp]
@[simp] theorem fetchOp_im : (s.fetchOp).im = s.im := by simp [State.fetchOp]
@[simp] theorem fetchOp_halted : (s.fetchOp).halted = s.halted := by simp [State.fetchOp]
@[simp] theorem fetchOp_t : (s.fetchOp).t = (s.tick .contendRead s.pc 4).t := by simp [State.fetchOp]
@[simp] theorem fetchOp_eiDelay : (s.fetchOp).eiDelay = s.eiDelay := by simp [State.fetchOp]
@[simp] theorem fetchOp_faulted : (s.fetchOp).faulted = s.faulted := by simp [State.fetchOp]
@[simp] theorem fetchOp_resetDone : (s.fetchOp).resetDone = s.resetDone := by simp [State.fetchOp]
@[simp] theorem fetchOp_mem : (s.fetchOp).mem = s.mem := by simp [State.fetchOp]
@[simp] theorem fetchOp_events : (s.fetchOp).events = s.events := by simp [State.fetchOp]
@[simp] theorem fetchOp_draws : (s.fetchOp).draws = (s.drawAt s.pc).draws := by
  simp only [State.fetchOp, State.drawAt, State.kindAt, setPc_draws, bumpR_draws, tick_platform]
  split <;> rfl
@[simp] theorem fetchOp_answers : (s.fetchOp).answers = (s.drawAt s.pc).answers := by
  simp only [State.fetchOp, State.drawAt, State.kindAt, setPc_answers, bumpR_answers, tick_platform]
  split <;> rfl
@[simp] theorem fetchOp_platform : (s.fetchOp).platform = s.platform := by simp [State.fetchOp]

end

/-! An immediate fetch -/

section
variable (s : State)

@[simp] theorem fetchImm_main : (s.fetchImm).main = s.main := by simp [State.fetchImm]
@[simp] theorem fetchImm_shadow : (s.fetchImm).shadow = s.shadow := by simp [State.fetchImm]
@[simp] theorem fetchImm_ix : (s.fetchImm).ix = s.ix := by simp [State.fetchImm]
@[simp] theorem fetchImm_iy : (s.fetchImm).iy = s.iy := by simp [State.fetchImm]
@[simp] theorem fetchImm_sp : (s.fetchImm).sp = s.sp := by simp [State.fetchImm]
@[simp] theorem fetchImm_pc : (s.fetchImm).pc = s.pc + 1 := by simp [State.fetchImm]
@[simp] theorem fetchImm_scr : (s.fetchImm).scr = s.scr := by simp [State.fetchImm]
@[simp] theorem fetchImm_i : (s.fetchImm).i = s.i := by simp [State.fetchImm]
@[simp] theorem fetchImm_rLow : (s.fetchImm).rLow = s.rLow := by simp [State.fetchImm]
@[simp] theorem fetchImm_rB7 : (s.fetchImm).rB7 = s.rB7 := by simp [State.fetchImm]
@[simp] theorem fetchImm_iff1 : (s.fetchImm).iff1 = s.iff1 := by simp [State.fetchImm]
@[simp] theorem fetchImm_iff2 : (s.fetchImm).iff2 = s.iff2 := by simp [State.fetchImm]
@[simp] theorem fetchImm_im : (s.fetchImm).im = s.im := by simp [State.fetchImm]
@[simp] theorem fetchImm_halted : (s.fetchImm).halted = s.halted := by simp [State.fetchImm]
@[simp] theorem fetchImm_t : (s.fetchImm).t = (s.tick .contendRead s.pc 3).t := by simp [State.fetchImm]
@[simp] theorem fetchImm_eiDelay : (s.fetchImm).eiDelay = s.eiDelay := by simp [State.fetchImm]
@[simp] theorem fetchImm_faulted : (s.fetchImm).faulted = s.faulted := by simp [State.fetchImm]
@[simp] theorem fetchImm_resetDone : (s.fetchImm).resetDone = s.resetDone := by simp [State.fetchImm]
@[simp] theorem fetchImm_mem : (s.fetchImm).mem = s.mem := by simp [State.fetchImm]
@[simp] theorem fetchImm_events : (s.fetchImm).events = s.events := by simp [State.fetchImm]
@[simp] theorem fetchImm_draws : (s.fetchImm).draws = (s.drawAt s.pc).draws := by
  simp only [State.fetchImm, State.drawAt, State.kindAt, setPc_draws, tick_platform]
  split <;> rfl
@[simp] theorem fetchImm_answers : (s.fetchImm).answers = (s.drawAt s.pc).answers := by
  simp only [State.fetchImm, State.drawAt, State.kindAt, setPc_answers, tick_platform]
  split <;> rfl
@[simp] theorem fetchImm_platform : (s.fetchImm).platform = s.platform := by simp [State.fetchImm]

end

end Sys2Proof.Machine
end

