-- ==== Sys2Proof/Laws/Operands.lean ====
section
/-! SUPPORT. The fields of State after the operations on operands and the composite accesses: what each leaves unchanged, one
lemma for each field. Named `<update>_<field>`. -/

namespace Sys2Proof.Machine

/-! BC as a pair -/

section
variable (s : State) (v : Word)

@[simp] theorem setBc_shadow : (s.setBc v).shadow = s.shadow := rfl
@[simp] theorem setBc_ix : (s.setBc v).ix = s.ix := rfl
@[simp] theorem setBc_iy : (s.setBc v).iy = s.iy := rfl
@[simp] theorem setBc_sp : (s.setBc v).sp = s.sp := rfl
@[simp] theorem setBc_pc : (s.setBc v).pc = s.pc := rfl
@[simp] theorem setBc_scr : (s.setBc v).scr = s.scr := rfl
@[simp] theorem setBc_i : (s.setBc v).i = s.i := rfl
@[simp] theorem setBc_rLow : (s.setBc v).rLow = s.rLow := rfl
@[simp] theorem setBc_rB7 : (s.setBc v).rB7 = s.rB7 := rfl
@[simp] theorem setBc_iff1 : (s.setBc v).iff1 = s.iff1 := rfl
@[simp] theorem setBc_iff2 : (s.setBc v).iff2 = s.iff2 := rfl
@[simp] theorem setBc_im : (s.setBc v).im = s.im := rfl
@[simp] theorem setBc_halted : (s.setBc v).halted = s.halted := rfl
@[simp] theorem setBc_t : (s.setBc v).t = s.t := rfl
@[simp] theorem setBc_eiDelay : (s.setBc v).eiDelay = s.eiDelay := rfl
@[simp] theorem setBc_faulted : (s.setBc v).faulted = s.faulted := rfl
@[simp] theorem setBc_resetDone : (s.setBc v).resetDone = s.resetDone := rfl
@[simp] theorem setBc_mem : (s.setBc v).mem = s.mem := rfl
@[simp] theorem setBc_events : (s.setBc v).events = s.events := rfl
@[simp] theorem setBc_draws : (s.setBc v).draws = s.draws := rfl
@[simp] theorem setBc_answers : (s.setBc v).answers = s.answers := rfl
@[simp] theorem setBc_platform : (s.setBc v).platform = s.platform := rfl

end

/-! DE as a pair -/

section
variable (s : State) (v : Word)

@[simp] theorem setDe_shadow : (s.setDe v).shadow = s.shadow := rfl
@[simp] theorem setDe_ix : (s.setDe v).ix = s.ix := rfl
@[simp] theorem setDe_iy : (s.setDe v).iy = s.iy := rfl
@[simp] theorem setDe_sp : (s.setDe v).sp = s.sp := rfl
@[simp] theorem setDe_pc : (s.setDe v).pc = s.pc := rfl
@[simp] theorem setDe_scr : (s.setDe v).scr = s.scr := rfl
@[simp] theorem setDe_i : (s.setDe v).i = s.i := rfl
@[simp] theorem setDe_rLow : (s.setDe v).rLow = s.rLow := rfl
@[simp] theorem setDe_rB7 : (s.setDe v).rB7 = s.rB7 := rfl
@[simp] theorem setDe_iff1 : (s.setDe v).iff1 = s.iff1 := rfl
@[simp] theorem setDe_iff2 : (s.setDe v).iff2 = s.iff2 := rfl
@[simp] theorem setDe_im : (s.setDe v).im = s.im := rfl
@[simp] theorem setDe_halted : (s.setDe v).halted = s.halted := rfl
@[simp] theorem setDe_t : (s.setDe v).t = s.t := rfl
@[simp] theorem setDe_eiDelay : (s.setDe v).eiDelay = s.eiDelay := rfl
@[simp] theorem setDe_faulted : (s.setDe v).faulted = s.faulted := rfl
@[simp] theorem setDe_resetDone : (s.setDe v).resetDone = s.resetDone := rfl
@[simp] theorem setDe_mem : (s.setDe v).mem = s.mem := rfl
@[simp] theorem setDe_events : (s.setDe v).events = s.events := rfl
@[simp] theorem setDe_draws : (s.setDe v).draws = s.draws := rfl
@[simp] theorem setDe_answers : (s.setDe v).answers = s.answers := rfl
@[simp] theorem setDe_platform : (s.setDe v).platform = s.platform := rfl

end

/-! HL as a pair -/

section
variable (s : State) (v : Word)

@[simp] theorem setHl_shadow : (s.setHl v).shadow = s.shadow := rfl
@[simp] theorem setHl_ix : (s.setHl v).ix = s.ix := rfl
@[simp] theorem setHl_iy : (s.setHl v).iy = s.iy := rfl
@[simp] theorem setHl_sp : (s.setHl v).sp = s.sp := rfl
@[simp] theorem setHl_pc : (s.setHl v).pc = s.pc := rfl
@[simp] theorem setHl_scr : (s.setHl v).scr = s.scr := rfl
@[simp] theorem setHl_i : (s.setHl v).i = s.i := rfl
@[simp] theorem setHl_rLow : (s.setHl v).rLow = s.rLow := rfl
@[simp] theorem setHl_rB7 : (s.setHl v).rB7 = s.rB7 := rfl
@[simp] theorem setHl_iff1 : (s.setHl v).iff1 = s.iff1 := rfl
@[simp] theorem setHl_iff2 : (s.setHl v).iff2 = s.iff2 := rfl
@[simp] theorem setHl_im : (s.setHl v).im = s.im := rfl
@[simp] theorem setHl_halted : (s.setHl v).halted = s.halted := rfl
@[simp] theorem setHl_t : (s.setHl v).t = s.t := rfl
@[simp] theorem setHl_eiDelay : (s.setHl v).eiDelay = s.eiDelay := rfl
@[simp] theorem setHl_faulted : (s.setHl v).faulted = s.faulted := rfl
@[simp] theorem setHl_resetDone : (s.setHl v).resetDone = s.resetDone := rfl
@[simp] theorem setHl_mem : (s.setHl v).mem = s.mem := rfl
@[simp] theorem setHl_events : (s.setHl v).events = s.events := rfl
@[simp] theorem setHl_draws : (s.setHl v).draws = s.draws := rfl
@[simp] theorem setHl_answers : (s.setHl v).answers = s.answers := rfl
@[simp] theorem setHl_platform : (s.setHl v).platform = s.platform := rfl

end

/-! AF as a pair -/

section
variable (s : State) (v : Word)

@[simp] theorem setAf_shadow : (s.setAf v).shadow = s.shadow := rfl
@[simp] theorem setAf_ix : (s.setAf v).ix = s.ix := rfl
@[simp] theorem setAf_iy : (s.setAf v).iy = s.iy := rfl
@[simp] theorem setAf_sp : (s.setAf v).sp = s.sp := rfl
@[simp] theorem setAf_pc : (s.setAf v).pc = s.pc := rfl
@[simp] theorem setAf_scr : (s.setAf v).scr = s.scr := rfl
@[simp] theorem setAf_i : (s.setAf v).i = s.i := rfl
@[simp] theorem setAf_rLow : (s.setAf v).rLow = s.rLow := rfl
@[simp] theorem setAf_rB7 : (s.setAf v).rB7 = s.rB7 := rfl
@[simp] theorem setAf_iff1 : (s.setAf v).iff1 = s.iff1 := rfl
@[simp] theorem setAf_iff2 : (s.setAf v).iff2 = s.iff2 := rfl
@[simp] theorem setAf_im : (s.setAf v).im = s.im := rfl
@[simp] theorem setAf_halted : (s.setAf v).halted = s.halted := rfl
@[simp] theorem setAf_t : (s.setAf v).t = s.t := rfl
@[simp] theorem setAf_eiDelay : (s.setAf v).eiDelay = s.eiDelay := rfl
@[simp] theorem setAf_faulted : (s.setAf v).faulted = s.faulted := rfl
@[simp] theorem setAf_resetDone : (s.setAf v).resetDone = s.resetDone := rfl
@[simp] theorem setAf_mem : (s.setAf v).mem = s.mem := rfl
@[simp] theorem setAf_events : (s.setAf v).events = s.events := rfl
@[simp] theorem setAf_draws : (s.setAf v).draws = s.draws := rfl
@[simp] theorem setAf_answers : (s.setAf v).answers = s.answers := rfl
@[simp] theorem setAf_platform : (s.setAf v).platform = s.platform := rfl

end

/-! An index register as a pair -/

section
variable (s : State) (xy : XY) (v : Word)

@[simp] theorem setXy_main : (s.setXy xy v).main = s.main := by cases xy <;> rfl
@[simp] theorem setXy_shadow : (s.setXy xy v).shadow = s.shadow := by cases xy <;> rfl
@[simp] theorem setXy_sp : (s.setXy xy v).sp = s.sp := by cases xy <;> rfl
@[simp] theorem setXy_pc : (s.setXy xy v).pc = s.pc := by cases xy <;> rfl
@[simp] theorem setXy_scr : (s.setXy xy v).scr = s.scr := by cases xy <;> rfl
@[simp] theorem setXy_i : (s.setXy xy v).i = s.i := by cases xy <;> rfl
@[simp] theorem setXy_rLow : (s.setXy xy v).rLow = s.rLow := by cases xy <;> rfl
@[simp] theorem setXy_rB7 : (s.setXy xy v).rB7 = s.rB7 := by cases xy <;> rfl
@[simp] theorem setXy_iff1 : (s.setXy xy v).iff1 = s.iff1 := by cases xy <;> rfl
@[simp] theorem setXy_iff2 : (s.setXy xy v).iff2 = s.iff2 := by cases xy <;> rfl
@[simp] theorem setXy_im : (s.setXy xy v).im = s.im := by cases xy <;> rfl
@[simp] theorem setXy_halted : (s.setXy xy v).halted = s.halted := by cases xy <;> rfl
@[simp] theorem setXy_t : (s.setXy xy v).t = s.t := by cases xy <;> rfl
@[simp] theorem setXy_eiDelay : (s.setXy xy v).eiDelay = s.eiDelay := by cases xy <;> rfl
@[simp] theorem setXy_faulted : (s.setXy xy v).faulted = s.faulted := by cases xy <;> rfl
@[simp] theorem setXy_resetDone : (s.setXy xy v).resetDone = s.resetDone := by cases xy <;> rfl
@[simp] theorem setXy_mem : (s.setXy xy v).mem = s.mem := by cases xy <;> rfl
@[simp] theorem setXy_events : (s.setXy xy v).events = s.events := by cases xy <;> rfl
@[simp] theorem setXy_draws : (s.setXy xy v).draws = s.draws := by cases xy <;> rfl
@[simp] theorem setXy_answers : (s.setXy xy v).answers = s.answers := by cases xy <;> rfl
@[simp] theorem setXy_platform : (s.setXy xy v).platform = s.platform := by cases xy <;> rfl

end

/-! A half of an index register -/

section
variable (s : State) (xy : XY) (h : Half) (v : Byte)

@[simp] theorem setHalf_main : (s.setHalf xy h v).main = s.main := by cases xy <;> cases h <;> rfl
@[simp] theorem setHalf_shadow : (s.setHalf xy h v).shadow = s.shadow := by cases xy <;> cases h <;> rfl
@[simp] theorem setHalf_sp : (s.setHalf xy h v).sp = s.sp := by cases xy <;> cases h <;> rfl
@[simp] theorem setHalf_pc : (s.setHalf xy h v).pc = s.pc := by cases xy <;> cases h <;> rfl
@[simp] theorem setHalf_scr : (s.setHalf xy h v).scr = s.scr := by cases xy <;> cases h <;> rfl
@[simp] theorem setHalf_i : (s.setHalf xy h v).i = s.i := by cases xy <;> cases h <;> rfl
@[simp] theorem setHalf_rLow : (s.setHalf xy h v).rLow = s.rLow := by cases xy <;> cases h <;> rfl
@[simp] theorem setHalf_rB7 : (s.setHalf xy h v).rB7 = s.rB7 := by cases xy <;> cases h <;> rfl
@[simp] theorem setHalf_iff1 : (s.setHalf xy h v).iff1 = s.iff1 := by cases xy <;> cases h <;> rfl
@[simp] theorem setHalf_iff2 : (s.setHalf xy h v).iff2 = s.iff2 := by cases xy <;> cases h <;> rfl
@[simp] theorem setHalf_im : (s.setHalf xy h v).im = s.im := by cases xy <;> cases h <;> rfl
@[simp] theorem setHalf_halted : (s.setHalf xy h v).halted = s.halted := by cases xy <;> cases h <;> rfl
@[simp] theorem setHalf_t : (s.setHalf xy h v).t = s.t := by cases xy <;> cases h <;> rfl
@[simp] theorem setHalf_eiDelay : (s.setHalf xy h v).eiDelay = s.eiDelay := by cases xy <;> cases h <;> rfl
@[simp] theorem setHalf_faulted : (s.setHalf xy h v).faulted = s.faulted := by cases xy <;> cases h <;> rfl
@[simp] theorem setHalf_resetDone : (s.setHalf xy h v).resetDone = s.resetDone := by cases xy <;> cases h <;> rfl
@[simp] theorem setHalf_mem : (s.setHalf xy h v).mem = s.mem := by cases xy <;> cases h <;> rfl
@[simp] theorem setHalf_events : (s.setHalf xy h v).events = s.events := by cases xy <;> cases h <;> rfl
@[simp] theorem setHalf_draws : (s.setHalf xy h v).draws = s.draws := by cases xy <;> cases h <;> rfl
@[simp] theorem setHalf_answers : (s.setHalf xy h v).answers = s.answers := by cases xy <;> cases h <;> rfl
@[simp] theorem setHalf_platform : (s.setHalf xy h v).platform = s.platform := by cases xy <;> cases h <;> rfl

end

/-! A pair of field `rp` -/

section
variable (s : State) (p : RP) (v : Word)

@[simp] theorem setRp_shadow : (s.setRp p v).shadow = s.shadow := by cases p <;> rfl
@[simp] theorem setRp_ix : (s.setRp p v).ix = s.ix := by cases p <;> rfl
@[simp] theorem setRp_iy : (s.setRp p v).iy = s.iy := by cases p <;> rfl
@[simp] theorem setRp_pc : (s.setRp p v).pc = s.pc := by cases p <;> rfl
@[simp] theorem setRp_scr : (s.setRp p v).scr = s.scr := by cases p <;> rfl
@[simp] theorem setRp_i : (s.setRp p v).i = s.i := by cases p <;> rfl
@[simp] theorem setRp_rLow : (s.setRp p v).rLow = s.rLow := by cases p <;> rfl
@[simp] theorem setRp_rB7 : (s.setRp p v).rB7 = s.rB7 := by cases p <;> rfl
@[simp] theorem setRp_iff1 : (s.setRp p v).iff1 = s.iff1 := by cases p <;> rfl
@[simp] theorem setRp_iff2 : (s.setRp p v).iff2 = s.iff2 := by cases p <;> rfl
@[simp] theorem setRp_im : (s.setRp p v).im = s.im := by cases p <;> rfl
@[simp] theorem setRp_halted : (s.setRp p v).halted = s.halted := by cases p <;> rfl
@[simp] theorem setRp_t : (s.setRp p v).t = s.t := by cases p <;> rfl
@[simp] theorem setRp_eiDelay : (s.setRp p v).eiDelay = s.eiDelay := by cases p <;> rfl
@[simp] theorem setRp_faulted : (s.setRp p v).faulted = s.faulted := by cases p <;> rfl
@[simp] theorem setRp_resetDone : (s.setRp p v).resetDone = s.resetDone := by cases p <;> rfl
@[simp] theorem setRp_mem : (s.setRp p v).mem = s.mem := by cases p <;> rfl
@[simp] theorem setRp_events : (s.setRp p v).events = s.events := by cases p <;> rfl
@[simp] theorem setRp_draws : (s.setRp p v).draws = s.draws := by cases p <;> rfl
@[simp] theorem setRp_answers : (s.setRp p v).answers = s.answers := by cases p <;> rfl
@[simp] theorem setRp_platform : (s.setRp p v).platform = s.platform := by cases p <;> rfl

end

/-! A pair of field `rp2` -/

section
variable (s : State) (p : RP2) (v : Word)

@[simp] theorem setRp2_shadow : (s.setRp2 p v).shadow = s.shadow := by cases p <;> rfl
@[simp] theorem setRp2_ix : (s.setRp2 p v).ix = s.ix := by cases p <;> rfl
@[simp] theorem setRp2_iy : (s.setRp2 p v).iy = s.iy := by cases p <;> rfl
@[simp] theorem setRp2_sp : (s.setRp2 p v).sp = s.sp := by cases p <;> rfl
@[simp] theorem setRp2_pc : (s.setRp2 p v).pc = s.pc := by cases p <;> rfl
@[simp] theorem setRp2_scr : (s.setRp2 p v).scr = s.scr := by cases p <;> rfl
@[simp] theorem setRp2_i : (s.setRp2 p v).i = s.i := by cases p <;> rfl
@[simp] theorem setRp2_rLow : (s.setRp2 p v).rLow = s.rLow := by cases p <;> rfl
@[simp] theorem setRp2_rB7 : (s.setRp2 p v).rB7 = s.rB7 := by cases p <;> rfl
@[simp] theorem setRp2_iff1 : (s.setRp2 p v).iff1 = s.iff1 := by cases p <;> rfl
@[simp] theorem setRp2_iff2 : (s.setRp2 p v).iff2 = s.iff2 := by cases p <;> rfl
@[simp] theorem setRp2_im : (s.setRp2 p v).im = s.im := by cases p <;> rfl
@[simp] theorem setRp2_halted : (s.setRp2 p v).halted = s.halted := by cases p <;> rfl
@[simp] theorem setRp2_t : (s.setRp2 p v).t = s.t := by cases p <;> rfl
@[simp] theorem setRp2_eiDelay : (s.setRp2 p v).eiDelay = s.eiDelay := by cases p <;> rfl
@[simp] theorem setRp2_faulted : (s.setRp2 p v).faulted = s.faulted := by cases p <;> rfl
@[simp] theorem setRp2_resetDone : (s.setRp2 p v).resetDone = s.resetDone := by cases p <;> rfl
@[simp] theorem setRp2_mem : (s.setRp2 p v).mem = s.mem := by cases p <;> rfl
@[simp] theorem setRp2_events : (s.setRp2 p v).events = s.events := by cases p <;> rfl
@[simp] theorem setRp2_draws : (s.setRp2 p v).draws = s.draws := by cases p <;> rfl
@[simp] theorem setRp2_answers : (s.setRp2 p v).answers = s.answers := by cases p <;> rfl
@[simp] theorem setRp2_platform : (s.setRp2 p v).platform = s.platform := by cases p <;> rfl

end

/-! The destination of `LD r,XYh` -/

section
variable (s : State) (xy : XY) (r : XReg) (v : Byte)

@[simp] theorem setXReg_shadow : (s.setXReg xy r v).shadow = s.shadow := by cases r <;> simp [State.setXReg]
@[simp] theorem setXReg_sp : (s.setXReg xy r v).sp = s.sp := by cases r <;> simp [State.setXReg]
@[simp] theorem setXReg_pc : (s.setXReg xy r v).pc = s.pc := by cases r <;> simp [State.setXReg]
@[simp] theorem setXReg_scr : (s.setXReg xy r v).scr = s.scr := by cases r <;> simp [State.setXReg]
@[simp] theorem setXReg_i : (s.setXReg xy r v).i = s.i := by cases r <;> simp [State.setXReg]
@[simp] theorem setXReg_rLow : (s.setXReg xy r v).rLow = s.rLow := by cases r <;> simp [State.setXReg]
@[simp] theorem setXReg_rB7 : (s.setXReg xy r v).rB7 = s.rB7 := by cases r <;> simp [State.setXReg]
@[simp] theorem setXReg_iff1 : (s.setXReg xy r v).iff1 = s.iff1 := by cases r <;> simp [State.setXReg]
@[simp] theorem setXReg_iff2 : (s.setXReg xy r v).iff2 = s.iff2 := by cases r <;> simp [State.setXReg]
@[simp] theorem setXReg_im : (s.setXReg xy r v).im = s.im := by cases r <;> simp [State.setXReg]
@[simp] theorem setXReg_halted : (s.setXReg xy r v).halted = s.halted := by cases r <;> simp [State.setXReg]
@[simp] theorem setXReg_t : (s.setXReg xy r v).t = s.t := by cases r <;> simp [State.setXReg]
@[simp] theorem setXReg_eiDelay : (s.setXReg xy r v).eiDelay = s.eiDelay := by cases r <;> simp [State.setXReg]
@[simp] theorem setXReg_faulted : (s.setXReg xy r v).faulted = s.faulted := by cases r <;> simp [State.setXReg]
@[simp] theorem setXReg_resetDone : (s.setXReg xy r v).resetDone = s.resetDone := by cases r <;> simp [State.setXReg]
@[simp] theorem setXReg_mem : (s.setXReg xy r v).mem = s.mem := by cases r <;> simp [State.setXReg]
@[simp] theorem setXReg_events : (s.setXReg xy r v).events = s.events := by cases r <;> simp [State.setXReg]
@[simp] theorem setXReg_draws : (s.setXReg xy r v).draws = s.draws := by cases r <;> simp [State.setXReg]
@[simp] theorem setXReg_answers : (s.setXReg xy r v).answers = s.answers := by cases r <;> simp [State.setXReg]
@[simp] theorem setXReg_platform : (s.setXReg xy r v).platform = s.platform := by cases r <;> simp [State.setXReg]

end

/-! A word read -/

section
variable (s : State) (a : Word)

@[simp] theorem afterReadWord_main : (s.afterReadWord a).main = s.main := by simp [State.afterReadWord]
@[simp] theorem afterReadWord_shadow : (s.afterReadWord a).shadow = s.shadow := by simp [State.afterReadWord]
@[simp] theorem afterReadWord_ix : (s.afterReadWord a).ix = s.ix := by simp [State.afterReadWord]
@[simp] theorem afterReadWord_iy : (s.afterReadWord a).iy = s.iy := by simp [State.afterReadWord]
@[simp] theorem afterReadWord_sp : (s.afterReadWord a).sp = s.sp := by simp [State.afterReadWord]
@[simp] theorem afterReadWord_pc : (s.afterReadWord a).pc = s.pc := by simp [State.afterReadWord]
@[simp] theorem afterReadWord_scr : (s.afterReadWord a).scr = s.scr := by simp [State.afterReadWord]
@[simp] theorem afterReadWord_i : (s.afterReadWord a).i = s.i := by simp [State.afterReadWord]
@[simp] theorem afterReadWord_rLow : (s.afterReadWord a).rLow = s.rLow := by simp [State.afterReadWord]
@[simp] theorem afterReadWord_rB7 : (s.afterReadWord a).rB7 = s.rB7 := by simp [State.afterReadWord]
@[simp] theorem afterReadWord_iff1 : (s.afterReadWord a).iff1 = s.iff1 := by simp [State.afterReadWord]
@[simp] theorem afterReadWord_iff2 : (s.afterReadWord a).iff2 = s.iff2 := by simp [State.afterReadWord]
@[simp] theorem afterReadWord_im : (s.afterReadWord a).im = s.im := by simp [State.afterReadWord]
@[simp] theorem afterReadWord_halted : (s.afterReadWord a).halted = s.halted := by simp [State.afterReadWord]
@[simp] theorem afterReadWord_eiDelay : (s.afterReadWord a).eiDelay = s.eiDelay := by simp [State.afterReadWord]
@[simp] theorem afterReadWord_faulted : (s.afterReadWord a).faulted = s.faulted := by simp [State.afterReadWord]
@[simp] theorem afterReadWord_resetDone : (s.afterReadWord a).resetDone = s.resetDone := by simp [State.afterReadWord]
@[simp] theorem afterReadWord_mem : (s.afterReadWord a).mem = s.mem := by simp [State.afterReadWord]
@[simp] theorem afterReadWord_events : (s.afterReadWord a).events = s.events := by simp [State.afterReadWord]
@[simp] theorem afterReadWord_platform : (s.afterReadWord a).platform = s.platform := by simp [State.afterReadWord]

end

/-! A pop -/

section
variable (s : State)

@[simp] theorem afterPop_main : (s.afterPop).main = s.main := by simp [State.afterPop]
@[simp] theorem afterPop_shadow : (s.afterPop).shadow = s.shadow := by simp [State.afterPop]
@[simp] theorem afterPop_ix : (s.afterPop).ix = s.ix := by simp [State.afterPop]
@[simp] theorem afterPop_iy : (s.afterPop).iy = s.iy := by simp [State.afterPop]
@[simp] theorem afterPop_sp : (s.afterPop).sp = s.sp + 2 := by simp [State.afterPop]
@[simp] theorem afterPop_pc : (s.afterPop).pc = s.pc := by simp [State.afterPop]
@[simp] theorem afterPop_scr : (s.afterPop).scr = s.scr := by simp [State.afterPop]
@[simp] theorem afterPop_i : (s.afterPop).i = s.i := by simp [State.afterPop]
@[simp] theorem afterPop_rLow : (s.afterPop).rLow = s.rLow := by simp [State.afterPop]
@[simp] theorem afterPop_rB7 : (s.afterPop).rB7 = s.rB7 := by simp [State.afterPop]
@[simp] theorem afterPop_iff1 : (s.afterPop).iff1 = s.iff1 := by simp [State.afterPop]
@[simp] theorem afterPop_iff2 : (s.afterPop).iff2 = s.iff2 := by simp [State.afterPop]
@[simp] theorem afterPop_im : (s.afterPop).im = s.im := by simp [State.afterPop]
@[simp] theorem afterPop_halted : (s.afterPop).halted = s.halted := by simp [State.afterPop]
@[simp] theorem afterPop_eiDelay : (s.afterPop).eiDelay = s.eiDelay := by simp [State.afterPop]
@[simp] theorem afterPop_faulted : (s.afterPop).faulted = s.faulted := by simp [State.afterPop]
@[simp] theorem afterPop_resetDone : (s.afterPop).resetDone = s.resetDone := by simp [State.afterPop]
@[simp] theorem afterPop_mem : (s.afterPop).mem = s.mem := by simp [State.afterPop]
@[simp] theorem afterPop_events : (s.afterPop).events = s.events := by simp [State.afterPop]
@[simp] theorem afterPop_platform : (s.afterPop).platform = s.platform := by simp [State.afterPop]

end

/-! A read and write of a byte -/

section
variable (s : State) (a : Word) (v : Byte)

@[simp] theorem modifyByte_main : (s.modifyByte a v).main = s.main := by simp [State.modifyByte]
@[simp] theorem modifyByte_shadow : (s.modifyByte a v).shadow = s.shadow := by simp [State.modifyByte]
@[simp] theorem modifyByte_ix : (s.modifyByte a v).ix = s.ix := by simp [State.modifyByte]
@[simp] theorem modifyByte_iy : (s.modifyByte a v).iy = s.iy := by simp [State.modifyByte]
@[simp] theorem modifyByte_sp : (s.modifyByte a v).sp = s.sp := by simp [State.modifyByte]
@[simp] theorem modifyByte_pc : (s.modifyByte a v).pc = s.pc := by simp [State.modifyByte]
@[simp] theorem modifyByte_scr : (s.modifyByte a v).scr = s.scr := by simp [State.modifyByte]
@[simp] theorem modifyByte_i : (s.modifyByte a v).i = s.i := by simp [State.modifyByte]
@[simp] theorem modifyByte_rLow : (s.modifyByte a v).rLow = s.rLow := by simp [State.modifyByte]
@[simp] theorem modifyByte_rB7 : (s.modifyByte a v).rB7 = s.rB7 := by simp [State.modifyByte]
@[simp] theorem modifyByte_iff1 : (s.modifyByte a v).iff1 = s.iff1 := by simp [State.modifyByte]
@[simp] theorem modifyByte_iff2 : (s.modifyByte a v).iff2 = s.iff2 := by simp [State.modifyByte]
@[simp] theorem modifyByte_im : (s.modifyByte a v).im = s.im := by simp [State.modifyByte]
@[simp] theorem modifyByte_halted : (s.modifyByte a v).halted = s.halted := by simp [State.modifyByte]
@[simp] theorem modifyByte_eiDelay : (s.modifyByte a v).eiDelay = s.eiDelay := by simp [State.modifyByte]
@[simp] theorem modifyByte_faulted : (s.modifyByte a v).faulted = s.faulted := by simp [State.modifyByte]
@[simp] theorem modifyByte_resetDone : (s.modifyByte a v).resetDone = s.resetDone := by simp [State.modifyByte]
@[simp] theorem modifyByte_events : (s.modifyByte a v).events = s.events := by simp [State.modifyByte]
@[simp] theorem modifyByte_platform : (s.modifyByte a v).platform = s.platform := by simp [State.modifyByte]

end

/-! A word write -/

section
variable (s : State) (a v : Word)

@[simp] theorem writeWord_main : (s.writeWord a v).main = s.main := by simp [State.writeWord]
@[simp] theorem writeWord_shadow : (s.writeWord a v).shadow = s.shadow := by simp [State.writeWord]
@[simp] theorem writeWord_ix : (s.writeWord a v).ix = s.ix := by simp [State.writeWord]
@[simp] theorem writeWord_iy : (s.writeWord a v).iy = s.iy := by simp [State.writeWord]
@[simp] theorem writeWord_sp : (s.writeWord a v).sp = s.sp := by simp [State.writeWord]
@[simp] theorem writeWord_pc : (s.writeWord a v).pc = s.pc := by simp [State.writeWord]
@[simp] theorem writeWord_scr : (s.writeWord a v).scr = s.scr := by simp [State.writeWord]
@[simp] theorem writeWord_i : (s.writeWord a v).i = s.i := by simp [State.writeWord]
@[simp] theorem writeWord_rLow : (s.writeWord a v).rLow = s.rLow := by simp [State.writeWord]
@[simp] theorem writeWord_rB7 : (s.writeWord a v).rB7 = s.rB7 := by simp [State.writeWord]
@[simp] theorem writeWord_iff1 : (s.writeWord a v).iff1 = s.iff1 := by simp [State.writeWord]
@[simp] theorem writeWord_iff2 : (s.writeWord a v).iff2 = s.iff2 := by simp [State.writeWord]
@[simp] theorem writeWord_im : (s.writeWord a v).im = s.im := by simp [State.writeWord]
@[simp] theorem writeWord_halted : (s.writeWord a v).halted = s.halted := by simp [State.writeWord]
@[simp] theorem writeWord_eiDelay : (s.writeWord a v).eiDelay = s.eiDelay := by simp [State.writeWord]
@[simp] theorem writeWord_faulted : (s.writeWord a v).faulted = s.faulted := by simp [State.writeWord]
@[simp] theorem writeWord_resetDone : (s.writeWord a v).resetDone = s.resetDone := by simp [State.writeWord]
@[simp] theorem writeWord_events : (s.writeWord a v).events = s.events := by simp [State.writeWord]
@[simp] theorem writeWord_draws : (s.writeWord a v).draws = s.draws := by simp [State.writeWord]
@[simp] theorem writeWord_answers : (s.writeWord a v).answers = s.answers := by simp [State.writeWord]
@[simp] theorem writeWord_platform : (s.writeWord a v).platform = s.platform := by simp [State.writeWord]

end

/-! A push -/

section
variable (s : State) (v : Word)

@[simp] theorem push_main : (s.push v).main = s.main := by simp [State.push]
@[simp] theorem push_shadow : (s.push v).shadow = s.shadow := by simp [State.push]
@[simp] theorem push_ix : (s.push v).ix = s.ix := by simp [State.push]
@[simp] theorem push_iy : (s.push v).iy = s.iy := by simp [State.push]
@[simp] theorem push_pc : (s.push v).pc = s.pc := by simp [State.push]
@[simp] theorem push_scr : (s.push v).scr = s.scr := by simp [State.push]
@[simp] theorem push_i : (s.push v).i = s.i := by simp [State.push]
@[simp] theorem push_rLow : (s.push v).rLow = s.rLow := by simp [State.push]
@[simp] theorem push_rB7 : (s.push v).rB7 = s.rB7 := by simp [State.push]
@[simp] theorem push_iff1 : (s.push v).iff1 = s.iff1 := by simp [State.push]
@[simp] theorem push_iff2 : (s.push v).iff2 = s.iff2 := by simp [State.push]
@[simp] theorem push_im : (s.push v).im = s.im := by simp [State.push]
@[simp] theorem push_halted : (s.push v).halted = s.halted := by simp [State.push]
@[simp] theorem push_eiDelay : (s.push v).eiDelay = s.eiDelay := by simp [State.push]
@[simp] theorem push_faulted : (s.push v).faulted = s.faulted := by simp [State.push]
@[simp] theorem push_resetDone : (s.push v).resetDone = s.resetDone := by simp [State.push]
@[simp] theorem push_events : (s.push v).events = s.events := by simp [State.push]
@[simp] theorem push_draws : (s.push v).draws = s.draws := by simp [State.push]
@[simp] theorem push_answers : (s.push v).answers = s.answers := by simp [State.push]
@[simp] theorem push_platform : (s.push v).platform = s.platform := by simp [State.push]

end

/-- A push leaves SP two lower (R58). -/
@[simp] theorem push_sp (s : State) (v : Word) : (s.push v).sp = s.sp - 2 := by
  simp only [State.push, memWrite_sp, setSp_sp]
  exact BitVec.sub_sub s.sp 1 1

/-! Two immediate bytes -/

section
variable (s : State)

@[simp] theorem fetchImm2_main : (s.fetchImm2).main = s.main := by simp [State.fetchImm2]
@[simp] theorem fetchImm2_shadow : (s.fetchImm2).shadow = s.shadow := by simp [State.fetchImm2]
@[simp] theorem fetchImm2_ix : (s.fetchImm2).ix = s.ix := by simp [State.fetchImm2]
@[simp] theorem fetchImm2_iy : (s.fetchImm2).iy = s.iy := by simp [State.fetchImm2]
@[simp] theorem fetchImm2_sp : (s.fetchImm2).sp = s.sp := by simp [State.fetchImm2]
@[simp] theorem fetchImm2_scr : (s.fetchImm2).scr = s.scr := by simp [State.fetchImm2]
@[simp] theorem fetchImm2_i : (s.fetchImm2).i = s.i := by simp [State.fetchImm2]
@[simp] theorem fetchImm2_rLow : (s.fetchImm2).rLow = s.rLow := by simp [State.fetchImm2]
@[simp] theorem fetchImm2_rB7 : (s.fetchImm2).rB7 = s.rB7 := by simp [State.fetchImm2]
@[simp] theorem fetchImm2_iff1 : (s.fetchImm2).iff1 = s.iff1 := by simp [State.fetchImm2]
@[simp] theorem fetchImm2_iff2 : (s.fetchImm2).iff2 = s.iff2 := by simp [State.fetchImm2]
@[simp] theorem fetchImm2_im : (s.fetchImm2).im = s.im := by simp [State.fetchImm2]
@[simp] theorem fetchImm2_halted : (s.fetchImm2).halted = s.halted := by simp [State.fetchImm2]
@[simp] theorem fetchImm2_eiDelay : (s.fetchImm2).eiDelay = s.eiDelay := by simp [State.fetchImm2]
@[simp] theorem fetchImm2_faulted : (s.fetchImm2).faulted = s.faulted := by simp [State.fetchImm2]
@[simp] theorem fetchImm2_resetDone : (s.fetchImm2).resetDone = s.resetDone := by simp [State.fetchImm2]
@[simp] theorem fetchImm2_mem : (s.fetchImm2).mem = s.mem := by simp [State.fetchImm2]
@[simp] theorem fetchImm2_events : (s.fetchImm2).events = s.events := by simp [State.fetchImm2]
@[simp] theorem fetchImm2_platform : (s.fetchImm2).platform = s.platform := by simp [State.fetchImm2]

end

/-! A displacement -/

section
variable (s : State)

@[simp] theorem fetchDisp_main : (s.fetchDisp).main = s.main := by simp [State.fetchDisp]
@[simp] theorem fetchDisp_shadow : (s.fetchDisp).shadow = s.shadow := by simp [State.fetchDisp]
@[simp] theorem fetchDisp_ix : (s.fetchDisp).ix = s.ix := by simp [State.fetchDisp]
@[simp] theorem fetchDisp_iy : (s.fetchDisp).iy = s.iy := by simp [State.fetchDisp]
@[simp] theorem fetchDisp_sp : (s.fetchDisp).sp = s.sp := by simp [State.fetchDisp]
@[simp] theorem fetchDisp_pc : (s.fetchDisp).pc = s.pc + 1 := by simp [State.fetchDisp]
@[simp] theorem fetchDisp_scr : (s.fetchDisp).scr = s.scr := by simp [State.fetchDisp]
@[simp] theorem fetchDisp_i : (s.fetchDisp).i = s.i := by simp [State.fetchDisp]
@[simp] theorem fetchDisp_rLow : (s.fetchDisp).rLow = s.rLow := by simp [State.fetchDisp]
@[simp] theorem fetchDisp_rB7 : (s.fetchDisp).rB7 = s.rB7 := by simp [State.fetchDisp]
@[simp] theorem fetchDisp_iff1 : (s.fetchDisp).iff1 = s.iff1 := by simp [State.fetchDisp]
@[simp] theorem fetchDisp_iff2 : (s.fetchDisp).iff2 = s.iff2 := by simp [State.fetchDisp]
@[simp] theorem fetchDisp_im : (s.fetchDisp).im = s.im := by simp [State.fetchDisp]
@[simp] theorem fetchDisp_halted : (s.fetchDisp).halted = s.halted := by simp [State.fetchDisp]
@[simp] theorem fetchDisp_eiDelay : (s.fetchDisp).eiDelay = s.eiDelay := by simp [State.fetchDisp]
@[simp] theorem fetchDisp_faulted : (s.fetchDisp).faulted = s.faulted := by simp [State.fetchDisp]
@[simp] theorem fetchDisp_resetDone : (s.fetchDisp).resetDone = s.resetDone := by simp [State.fetchDisp]
@[simp] theorem fetchDisp_mem : (s.fetchDisp).mem = s.mem := by simp [State.fetchDisp]
@[simp] theorem fetchDisp_events : (s.fetchDisp).events = s.events := by simp [State.fetchDisp]
@[simp] theorem fetchDisp_platform : (s.fetchDisp).platform = s.platform := by simp [State.fetchDisp]

end

/-! The indexed-CB path -/

section
variable (s : State) (xy : XY) (d : Byte)

@[simp] theorem enterIndexedCb_main : (s.enterIndexedCb xy d).main = s.main := by simp [State.enterIndexedCb, State.fetchSubOp]
@[simp] theorem enterIndexedCb_shadow : (s.enterIndexedCb xy d).shadow = s.shadow := by simp [State.enterIndexedCb, State.fetchSubOp]
@[simp] theorem enterIndexedCb_ix : (s.enterIndexedCb xy d).ix = s.ix := by simp [State.enterIndexedCb, State.fetchSubOp]
@[simp] theorem enterIndexedCb_iy : (s.enterIndexedCb xy d).iy = s.iy := by simp [State.enterIndexedCb, State.fetchSubOp]
@[simp] theorem enterIndexedCb_sp : (s.enterIndexedCb xy d).sp = s.sp := by simp [State.enterIndexedCb, State.fetchSubOp]
@[simp] theorem enterIndexedCb_scr : (s.enterIndexedCb xy d).scr = s.eaXy xy d := by simp [State.enterIndexedCb, State.fetchSubOp]
@[simp] theorem enterIndexedCb_i : (s.enterIndexedCb xy d).i = s.i := by simp [State.enterIndexedCb, State.fetchSubOp]
@[simp] theorem enterIndexedCb_rLow : (s.enterIndexedCb xy d).rLow = s.rLow := by simp [State.enterIndexedCb, State.fetchSubOp]
@[simp] theorem enterIndexedCb_rB7 : (s.enterIndexedCb xy d).rB7 = s.rB7 := by simp [State.enterIndexedCb, State.fetchSubOp]
@[simp] theorem enterIndexedCb_iff1 : (s.enterIndexedCb xy d).iff1 = s.iff1 := by simp [State.enterIndexedCb, State.fetchSubOp]
@[simp] theorem enterIndexedCb_iff2 : (s.enterIndexedCb xy d).iff2 = s.iff2 := by simp [State.enterIndexedCb, State.fetchSubOp]
@[simp] theorem enterIndexedCb_im : (s.enterIndexedCb xy d).im = s.im := by simp [State.enterIndexedCb, State.fetchSubOp]
@[simp] theorem enterIndexedCb_halted : (s.enterIndexedCb xy d).halted = s.halted := by simp [State.enterIndexedCb, State.fetchSubOp]
@[simp] theorem enterIndexedCb_eiDelay : (s.enterIndexedCb xy d).eiDelay = s.eiDelay := by simp [State.enterIndexedCb, State.fetchSubOp]
@[simp] theorem enterIndexedCb_faulted : (s.enterIndexedCb xy d).faulted = s.faulted := by simp [State.enterIndexedCb, State.fetchSubOp]
@[simp] theorem enterIndexedCb_resetDone : (s.enterIndexedCb xy d).resetDone = s.resetDone := by simp [State.enterIndexedCb, State.fetchSubOp]
@[simp] theorem enterIndexedCb_mem : (s.enterIndexedCb xy d).mem = s.mem := by simp [State.enterIndexedCb, State.fetchSubOp]
@[simp] theorem enterIndexedCb_events : (s.enterIndexedCb xy d).events = s.events := by simp [State.enterIndexedCb, State.fetchSubOp]
@[simp] theorem enterIndexedCb_platform : (s.enterIndexedCb xy d).platform = s.platform := by simp [State.enterIndexedCb, State.fetchSubOp]

end

/-- The walk fetches two bytes of the operand's own. -/
@[simp] theorem fetchImm2_pc (s : State) : s.fetchImm2.pc = s.pc + 2 := by
  simp only [State.fetchImm2, fetchImm_pc]
  exact BitVec.add_assoc s.pc 1 1

@[simp] theorem enterIndexedCb_pc (s : State) (xy : XY) (d : Byte) : (s.enterIndexedCb xy d).pc = s.pc + 2 := by
  simp only [State.enterIndexedCb, State.fetchSubOp, setPc_pc, setScr_pc, fetchImm_pc]
  exact BitVec.add_assoc s.pc 1 1

/-! A port read -/

section
variable (s : State) (p : Word)

@[simp] theorem afterPortRead_main : (s.afterPortRead p).main = s.main := by simp [State.afterPortRead]
@[simp] theorem afterPortRead_shadow : (s.afterPortRead p).shadow = s.shadow := by simp [State.afterPortRead]
@[simp] theorem afterPortRead_ix : (s.afterPortRead p).ix = s.ix := by simp [State.afterPortRead]
@[simp] theorem afterPortRead_iy : (s.afterPortRead p).iy = s.iy := by simp [State.afterPortRead]
@[simp] theorem afterPortRead_sp : (s.afterPortRead p).sp = s.sp := by simp [State.afterPortRead]
@[simp] theorem afterPortRead_pc : (s.afterPortRead p).pc = s.pc := by simp [State.afterPortRead]
@[simp] theorem afterPortRead_scr : (s.afterPortRead p).scr = s.scr := by simp [State.afterPortRead]
@[simp] theorem afterPortRead_i : (s.afterPortRead p).i = s.i := by simp [State.afterPortRead]
@[simp] theorem afterPortRead_rLow : (s.afterPortRead p).rLow = s.rLow := by simp [State.afterPortRead]
@[simp] theorem afterPortRead_rB7 : (s.afterPortRead p).rB7 = s.rB7 := by simp [State.afterPortRead]
@[simp] theorem afterPortRead_iff1 : (s.afterPortRead p).iff1 = s.iff1 := by simp [State.afterPortRead]
@[simp] theorem afterPortRead_iff2 : (s.afterPortRead p).iff2 = s.iff2 := by simp [State.afterPortRead]
@[simp] theorem afterPortRead_im : (s.afterPortRead p).im = s.im := by simp [State.afterPortRead]
@[simp] theorem afterPortRead_halted : (s.afterPortRead p).halted = s.halted := by simp [State.afterPortRead]
@[simp] theorem afterPortRead_eiDelay : (s.afterPortRead p).eiDelay = s.eiDelay := by simp [State.afterPortRead]
@[simp] theorem afterPortRead_faulted : (s.afterPortRead p).faulted = s.faulted := by simp [State.afterPortRead]
@[simp] theorem afterPortRead_resetDone : (s.afterPortRead p).resetDone = s.resetDone := by simp [State.afterPortRead]
@[simp] theorem afterPortRead_mem : (s.afterPortRead p).mem = s.mem := by simp [State.afterPortRead]
@[simp] theorem afterPortRead_events : (s.afterPortRead p).events = s.events ++ [.portIn p (s.portByte p)] := by simp [State.afterPortRead]
@[simp] theorem afterPortRead_draws : (s.afterPortRead p).draws = s.draws + 1 := by simp [State.afterPortRead]
@[simp] theorem afterPortRead_answers : (s.afterPortRead p).answers = s.answers.tail := by simp [State.afterPortRead]
@[simp] theorem afterPortRead_platform : (s.afterPortRead p).platform = s.platform := by simp [State.afterPortRead]

end

/-! A port write -/

section
variable (s : State) (p : Word) (v : Byte)

@[simp] theorem portWrite_main : (s.portWrite p v).main = s.main := by simp [State.portWrite]
@[simp] theorem portWrite_shadow : (s.portWrite p v).shadow = s.shadow := by simp [State.portWrite]
@[simp] theorem portWrite_ix : (s.portWrite p v).ix = s.ix := by simp [State.portWrite]
@[simp] theorem portWrite_iy : (s.portWrite p v).iy = s.iy := by simp [State.portWrite]
@[simp] theorem portWrite_sp : (s.portWrite p v).sp = s.sp := by simp [State.portWrite]
@[simp] theorem portWrite_pc : (s.portWrite p v).pc = s.pc := by simp [State.portWrite]
@[simp] theorem portWrite_scr : (s.portWrite p v).scr = s.scr := by simp [State.portWrite]
@[simp] theorem portWrite_i : (s.portWrite p v).i = s.i := by simp [State.portWrite]
@[simp] theorem portWrite_rLow : (s.portWrite p v).rLow = s.rLow := by simp [State.portWrite]
@[simp] theorem portWrite_rB7 : (s.portWrite p v).rB7 = s.rB7 := by simp [State.portWrite]
@[simp] theorem portWrite_iff1 : (s.portWrite p v).iff1 = s.iff1 := by simp [State.portWrite]
@[simp] theorem portWrite_iff2 : (s.portWrite p v).iff2 = s.iff2 := by simp [State.portWrite]
@[simp] theorem portWrite_im : (s.portWrite p v).im = s.im := by simp [State.portWrite]
@[simp] theorem portWrite_halted : (s.portWrite p v).halted = s.halted := by simp [State.portWrite]
@[simp] theorem portWrite_eiDelay : (s.portWrite p v).eiDelay = s.eiDelay := by simp [State.portWrite]
@[simp] theorem portWrite_faulted : (s.portWrite p v).faulted = s.faulted := by simp [State.portWrite]
@[simp] theorem portWrite_resetDone : (s.portWrite p v).resetDone = s.resetDone := by simp [State.portWrite]
@[simp] theorem portWrite_mem : (s.portWrite p v).mem = s.mem := by simp [State.portWrite]
@[simp] theorem portWrite_events : (s.portWrite p v).events = s.events ++ [.portOut p v] := by simp [State.portWrite]
@[simp] theorem portWrite_draws : (s.portWrite p v).draws = s.draws := by simp [State.portWrite]
@[simp] theorem portWrite_answers : (s.portWrite p v).answers = s.answers := by simp [State.portWrite]
@[simp] theorem portWrite_platform : (s.portWrite p v).platform = s.platform := by simp [State.portWrite]

end

/-! A source operand -/

section
variable (s : State) (src : Source)

@[simp] theorem afterSource_main : (s.afterSource src).main = s.main := by cases src <;> simp [State.afterSource]
@[simp] theorem afterSource_shadow : (s.afterSource src).shadow = s.shadow := by cases src <;> simp [State.afterSource]
@[simp] theorem afterSource_ix : (s.afterSource src).ix = s.ix := by cases src <;> simp [State.afterSource]
@[simp] theorem afterSource_iy : (s.afterSource src).iy = s.iy := by cases src <;> simp [State.afterSource]
@[simp] theorem afterSource_sp : (s.afterSource src).sp = s.sp := by cases src <;> simp [State.afterSource]
@[simp] theorem afterSource_scr : (s.afterSource src).scr = s.scr := by cases src <;> simp [State.afterSource]
@[simp] theorem afterSource_i : (s.afterSource src).i = s.i := by cases src <;> simp [State.afterSource]
@[simp] theorem afterSource_rLow : (s.afterSource src).rLow = s.rLow := by cases src <;> simp [State.afterSource]
@[simp] theorem afterSource_rB7 : (s.afterSource src).rB7 = s.rB7 := by cases src <;> simp [State.afterSource]
@[simp] theorem afterSource_iff1 : (s.afterSource src).iff1 = s.iff1 := by cases src <;> simp [State.afterSource]
@[simp] theorem afterSource_iff2 : (s.afterSource src).iff2 = s.iff2 := by cases src <;> simp [State.afterSource]
@[simp] theorem afterSource_im : (s.afterSource src).im = s.im := by cases src <;> simp [State.afterSource]
@[simp] theorem afterSource_halted : (s.afterSource src).halted = s.halted := by cases src <;> simp [State.afterSource]
@[simp] theorem afterSource_eiDelay : (s.afterSource src).eiDelay = s.eiDelay := by cases src <;> simp [State.afterSource]
@[simp] theorem afterSource_faulted : (s.afterSource src).faulted = s.faulted := by cases src <;> simp [State.afterSource]
@[simp] theorem afterSource_resetDone : (s.afterSource src).resetDone = s.resetDone := by cases src <;> simp [State.afterSource]
@[simp] theorem afterSource_mem : (s.afterSource src).mem = s.mem := by cases src <;> simp [State.afterSource]
@[simp] theorem afterSource_events : (s.afterSource src).events = s.events := by cases src <;> simp [State.afterSource]
@[simp] theorem afterSource_platform : (s.afterSource src).platform = s.platform := by cases src <;> simp [State.afterSource]

end

end Sys2Proof.Machine
end

