-- ==== Sys2Proof/Laws/Ops.lean ====
section
/-! SUPPORT. The shared operations: bytes and words, what a read gives and what a write leaves, what each operation costs without
contention, and which raw cell each update changes. Later proofs cite these and unfold no operation. -/

namespace Sys2Proof

/-! ### Words -/

theorem toNat_mkWord (h l : Byte) : (mkWord h l).toNat = h.toNat * 256 + l.toNat := by
  simp only [mkWord, BitVec.toNat_append]
  rw [← Nat.shiftLeft_add_eq_or_of_lt l.isLt, Nat.shiftLeft_eq]

theorem toNat_hiByte (v : Word) : (hiByte v).toNat = v.toNat / 256 := by
  have := v.isLt
  simp only [hiByte, BitVec.extractLsb'_toNat, Nat.shiftRight_eq_div_pow]
  omega

theorem toNat_loByte (v : Word) : (loByte v).toNat = v.toNat % 256 := by
  simp [loByte, BitVec.extractLsb'_toNat]

@[simp] theorem hiByte_mkWord (h l : Byte) : hiByte (mkWord h l) = h := by
  apply BitVec.eq_of_toNat_eq
  rw [toNat_hiByte, toNat_mkWord]
  have := l.isLt
  omega

@[simp] theorem loByte_mkWord (h l : Byte) : loByte (mkWord h l) = l := by
  apply BitVec.eq_of_toNat_eq
  rw [toNat_loByte, toNat_mkWord]
  have := l.isLt
  omega

@[simp] theorem mkWord_hiByte_loByte (v : Word) : mkWord (hiByte v) (loByte v) = v := by
  apply BitVec.eq_of_toNat_eq
  rw [toNat_mkWord, toNat_hiByte, toNat_loByte]
  omega

namespace Machine

/-! ### Registers -/

@[simp] theorem get_set_self (g : Bank) (r : R8) (v : Byte) : (g.set r v).get r = v := by cases r <;> rfl

theorem get_set_ne (g : Bank) {r q : R8} (v : Byte) (h : q ≠ r) : (g.set r v).get q = g.get q := by
  cases r <;> cases q <;> first | rfl | exact absurd rfl h

theorem get_set (g : Bank) (r q : R8) (v : Byte) : (g.set r v).get q = if q = r then v else g.get q := by
  split
  · next h => rw [h, get_set_self]
  · next h => exact get_set_ne g v h

@[simp] theorem set_f (g : Bank) (r : R8) (v : Byte) : (g.set r v).f = g.f := by cases r <;> rfl

@[simp] theorem index_setIndex_self (s : State) (xy : XY) (v : IndexReg) : (s.setIndex xy v).index xy = v := by cases xy <;> rfl

/-! ### What a state reads as after an update -/

/-- The map decides what the backend does at an address. -/
theorem kindAt_congr {s t : State} (h : t.platform = s.platform) (a : Word) : t.kindAt a = s.kindAt a := by
  simp [State.kindAt, h]

theorem peek_def (s : State) (a : Word) : s.peek a = s.mem.read a.toNat := rfl

/-- The contents after a store, at any address but the one stored to. -/
theorem read_storeByte_ne (s : State) {a b : Word} (v : Byte) (h : b ≠ a) :
    (s.storeByte a v).mem.read b.toNat = s.mem.read b.toNat := by
  unfold State.storeByte
  split
  · exact Memory.read_write_ne v (fun e => h (BitVec.eq_of_toNat_eq e)) _
  · rfl
  · rfl

/-- The contents after a store, at the address stored to. -/
theorem read_storeByte_self (s : State) (a : Word) (v : Byte) (hm : s.mem.wf = true) :
    (s.storeByte a v).mem.read a.toNat = if s.kindAt a = .ram then v else s.mem.read a.toNat := by
  unfold State.storeByte
  split
  · next h => simp only [h, if_true]; exact Memory.read_write_self v hm
  · next h => simp [h]
  · next h => simp [h]

theorem wf_storeByte (s : State) (a : Word) (v : Byte) (hm : s.mem.wf = true) : (s.storeByte a v).mem.wf = true := by
  unfold State.storeByte
  split
  · exact Memory.wf_write a v hm
  · exact hm
  · exact hm

/-- Everything a timed byte write can do to the contents of memory. -/
theorem peek_memWrite (s : State) (a b : Word) (v : Byte) (hm : s.mem.wf = true) :
    (s.memWrite a v).peek b = if b = a then (if s.kindAt a = .ram then v else s.peek a) else s.peek b := by
  split
  · next h => subst h; simpa [State.peek] using read_storeByte_self s b v hm
  · next h => simpa [State.peek] using read_storeByte_ne s v h

theorem peek_memWrite_ne (s : State) {a b : Word} (v : Byte) (h : b ≠ a) : (s.memWrite a v).peek b = s.peek b := by
  simpa [State.peek] using read_storeByte_ne s v h

theorem wf_memWrite (s : State) (a : Word) (v : Byte) (hm : s.mem.wf = true) : (s.memWrite a v).mem.wf = true := by
  rw [memWrite_mem]; exact wf_storeByte s a v hm

theorem wf_push (s : State) (v : Word) (hm : s.mem.wf = true) : (s.push v).mem.wf = true := by
  simp only [State.push]
  exact wf_memWrite _ _ _ (by rw [setSp_mem]; exact wf_memWrite _ _ _ (by rw [setSp_mem]; exact hm))

theorem wf_writeWord (s : State) (a v : Word) (hm : s.mem.wf = true) : (s.writeWord a v).mem.wf = true :=
  wf_memWrite _ _ _ (wf_memWrite _ _ _ hm)

/-- Two states with the same contents read alike. -/
theorem peek_congr {s t : State} (h : t.mem = s.mem) (a : Word) : t.peek a = s.peek a := by simp [State.peek, h]

/-- A read gives the contents wherever the address is not a device. -/
theorem byteAt_plain (s : State) {a : Word} (h : s.kindAt a ≠ .device) : s.byteAt a = s.peek a := by
  unfold State.byteAt; split <;> first | rfl | contradiction

/-- A read draws nothing wherever the address is not a device. -/
theorem drawAt_plain (s : State) {a : Word} (h : s.kindAt a ≠ .device) : s.drawAt a = s := by
  unfold State.drawAt; split <;> first | rfl | contradiction

/-- What a read gives depends on the map, the contents, the draws made and the answers lined up. -/
theorem byteAt_congr {s t : State} (hp : t.platform = s.platform) (hm : t.mem = s.mem) (hd : t.draws = s.draws)
    (ha : t.answers = s.answers) (a : Word) : t.byteAt a = s.byteAt a := by
  simp [State.byteAt, State.kindAt, State.peek, State.nextAnswer, hp, hm, hd, ha]

/-! ### What an operation costs with no contention (R319) -/

theorem tick_t (s : State) (k : BusKind) (a : Word) (n : Nat) (h : s.platform.contended = false) : (s.tick k a n).t = s.t + n := by
  simp [State.tick, h]

theorem ticks_t (s : State) (k : BusKind) (a : Word) (n : Nat) (h : s.platform.contended = false) :
    (s.ticks k a n).t = s.t + n := by
  induction n with
  | zero => rfl
  | succ n ih => rw [State.ticks, tick_t _ _ _ _ (by simpa using h), ih]; omega

theorem noMreq_t (s : State) (a : Word) (n : Nat) (h : s.platform.contended = false) : (s.noMreq a n).t = s.t + n := ticks_t s _ a n h

theorem noMreqWrite_t (s : State) (a : Word) (n : Nat) (h : s.platform.contended = false) : (s.noMreqWrite a n).t = s.t + n :=
  ticks_t s _ a n h

/-! ### T never falls (R322) -/

theorem tick_le (s : State) (k : BusKind) (a : Word) (n : Nat) : s.t + n ≤ (s.tick k a n).t := by
  simp only [State.tick, addT_t]; omega

theorem ticks_le (s : State) (k : BusKind) (a : Word) (n : Nat) : s.t + n ≤ (s.ticks k a n).t := by
  induction n with
  | zero => exact Nat.le_refl _
  | succ n ih => have := tick_le (s.ticks k a n) k a 1; rw [State.ticks]; omega

end Machine

end Sys2Proof
end

