-- ==== Sys2Proof/Laws/Cells.lean ====
section
/-! SUPPORT. Which raw cell each update changes (`rawRead_<update>`), and that no update changes the map (`kindAt_<update>`): one
lemma for each update, over all cells at once. -/

namespace Sys2Proof.Machine

/-- Two states with the same registers and status read alike in every cell but PC and T. -/
theorem rawRead_congr {s t : State} (hmain : t.main = s.main) (hshadow : t.shadow = s.shadow) (hix : t.ix = s.ix)
    (hiy : t.iy = s.iy) (hsp : t.sp = s.sp) (hi : t.i = s.i) (hl : t.rLow = s.rLow) (hb : t.rB7 = s.rB7)
    (h1 : t.iff1 = s.iff1) (h2 : t.iff2 = s.iff2) (him : t.im = s.im) (hh : t.halted = s.halted) {c : RawCell}
    (hpc : c ≠ .pc ∨ t.pc = s.pc) (ht : c ≠ .t ∨ t.t = s.t) : t.rawRead c = s.rawRead c := by
  cases c with
  | half xy h => cases xy <;> cases h <;> simp [State.rawRead, State.half, State.index, hix, hiy]
  | pc => simp_all [State.rawRead]
  | t => simp_all [State.rawRead]
  | r => simp [State.rawRead, State.rByte, hl, hb]
  | _ => simp [State.rawRead, *]

section
variable (s : State) {c : RawCell}

@[simp] theorem rawRead_addT (n : Nat) (ht : c ≠ .t) : (s.addT n).rawRead c = s.rawRead c :=
  rawRead_congr (by simp) (by simp) (by simp) (by simp) (by simp) (by simp) (by simp) (by simp) (by simp) (by simp) (by simp)
    (by simp) (.inr (by simp)) (.inl ht)
@[simp] theorem kindAt_addT (n : Nat) (b : Word) : (s.addT n).kindAt b = s.kindAt b := kindAt_congr (by simp) b

@[simp] theorem rawRead_tick (k : BusKind) (a : Word) (n : Nat) (ht : c ≠ .t) : (s.tick k a n).rawRead c = s.rawRead c :=
  rawRead_congr (by simp) (by simp) (by simp) (by simp) (by simp) (by simp) (by simp) (by simp) (by simp) (by simp) (by simp)
    (by simp) (.inr (by simp)) (.inl ht)
@[simp] theorem kindAt_tick (k : BusKind) (a : Word) (n : Nat) (b : Word) : (s.tick k a n).kindAt b = s.kindAt b := kindAt_congr (by simp) b

@[simp] theorem rawRead_ticks (k : BusKind) (a : Word) (n : Nat) (ht : c ≠ .t) : (s.ticks k a n).rawRead c = s.rawRead c :=
  rawRead_congr (by simp) (by simp) (by simp) (by simp) (by simp) (by simp) (by simp) (by simp) (by simp) (by simp) (by simp)
    (by simp) (.inr (by simp)) (.inl ht)
@[simp] theorem kindAt_ticks (k : BusKind) (a : Word) (n : Nat) (b : Word) : (s.ticks k a n).kindAt b = s.kindAt b := kindAt_congr (by simp) b

@[simp] theorem rawRead_noMreq (a : Word) (n : Nat) (ht : c ≠ .t) : (s.noMreq a n).rawRead c = s.rawRead c :=
  rawRead_congr (by simp) (by simp) (by simp) (by simp) (by simp) (by simp) (by simp) (by simp) (by simp) (by simp) (by simp)
    (by simp) (.inr (by simp)) (.inl ht)
@[simp] theorem kindAt_noMreq (a : Word) (n : Nat) (b : Word) : (s.noMreq a n).kindAt b = s.kindAt b := kindAt_congr (by simp) b

@[simp] theorem rawRead_noMreqWrite (a : Word) (n : Nat) (ht : c ≠ .t) : (s.noMreqWrite a n).rawRead c = s.rawRead c :=
  rawRead_congr (by simp) (by simp) (by simp) (by simp) (by simp) (by simp) (by simp) (by simp) (by simp) (by simp) (by simp)
    (by simp) (.inr (by simp)) (.inl ht)
@[simp] theorem kindAt_noMreqWrite (a : Word) (n : Nat) (b : Word) : (s.noMreqWrite a n).kindAt b = s.kindAt b := kindAt_congr (by simp) b

@[simp] theorem rawRead_afterRead (a : Word) (ht : c ≠ .t) : (s.afterRead a).rawRead c = s.rawRead c :=
  rawRead_congr (by simp) (by simp) (by simp) (by simp) (by simp) (by simp) (by simp) (by simp) (by simp) (by simp) (by simp)
    (by simp) (.inr (by simp)) (.inl ht)
@[simp] theorem kindAt_afterRead (a : Word) (b : Word) : (s.afterRead a).kindAt b = s.kindAt b := kindAt_congr (by simp) b

@[simp] theorem rawRead_memWrite (a : Word) (v : Byte) (ht : c ≠ .t) : (s.memWrite a v).rawRead c = s.rawRead c :=
  rawRead_congr (by simp) (by simp) (by simp) (by simp) (by simp) (by simp) (by simp) (by simp) (by simp) (by simp) (by simp)
    (by simp) (.inr (by simp)) (.inl ht)
@[simp] theorem kindAt_memWrite (a : Word) (v : Byte) (b : Word) : (s.memWrite a v).kindAt b = s.kindAt b := kindAt_congr (by simp) b

@[simp] theorem rawRead_fetchImm  (hp : c ≠ .pc) (ht : c ≠ .t) : (s.fetchImm).rawRead c = s.rawRead c :=
  rawRead_congr (by simp) (by simp) (by simp) (by simp) (by simp) (by simp) (by simp) (by simp) (by simp) (by simp) (by simp)
    (by simp) (.inl hp) (.inl ht)
@[simp] theorem kindAt_fetchImm  (b : Word) : (s.fetchImm).kindAt b = s.kindAt b := kindAt_congr (by simp) b

@[simp] theorem rawRead_drawAt (a : Word) : (s.drawAt a).rawRead c = s.rawRead c :=
  rawRead_congr (by simp) (by simp) (by simp) (by simp) (by simp) (by simp) (by simp) (by simp) (by simp) (by simp) (by simp)
    (by simp) (.inr (by simp)) (.inr (by simp))
@[simp] theorem kindAt_drawAt (a : Word) (b : Word) : (s.drawAt a).kindAt b = s.kindAt b := kindAt_congr (by simp) b

@[simp] theorem rawRead_storeByte (a : Word) (v : Byte) : (s.storeByte a v).rawRead c = s.rawRead c :=
  rawRead_congr (by simp) (by simp) (by simp) (by simp) (by simp) (by simp) (by simp) (by simp) (by simp) (by simp) (by simp)
    (by simp) (.inr (by simp)) (.inr (by simp))
@[simp] theorem kindAt_storeByte (a : Word) (v : Byte) (b : Word) : (s.storeByte a v).kindAt b = s.kindAt b := kindAt_congr (by simp) b

@[simp] theorem rawRead_draw  : (s.draw).rawRead c = s.rawRead c :=
  rawRead_congr (by simp) (by simp) (by simp) (by simp) (by simp) (by simp) (by simp) (by simp) (by simp) (by simp) (by simp)
    (by simp) (.inr (by simp)) (.inr (by simp))
@[simp] theorem kindAt_draw  (b : Word) : (s.draw).kindAt b = s.kindAt b := kindAt_congr (by simp) b

@[simp] theorem rawRead_logEvent (e : PortEvent) : (s.logEvent e).rawRead c = s.rawRead c :=
  rawRead_congr (by simp) (by simp) (by simp) (by simp) (by simp) (by simp) (by simp) (by simp) (by simp) (by simp) (by simp)
    (by simp) (.inr (by simp)) (.inr (by simp))
@[simp] theorem kindAt_logEvent (e : PortEvent) (b : Word) : (s.logEvent e).kindAt b = s.kindAt b := kindAt_congr (by simp) b

@[simp] theorem rawRead_setScr (v : Word) : (s.setScr v).rawRead c = s.rawRead c :=
  rawRead_congr (by simp) (by simp) (by simp) (by simp) (by simp) (by simp) (by simp) (by simp) (by simp) (by simp) (by simp)
    (by simp) (.inr (by simp)) (.inr (by simp))
@[simp] theorem kindAt_setScr (v : Word) (b : Word) : (s.setScr v).kindAt b = s.kindAt b := kindAt_congr (by simp) b

@[simp] theorem rawRead_setEiDelay (v : Bool) : (s.setEiDelay v).rawRead c = s.rawRead c :=
  rawRead_congr (by simp) (by simp) (by simp) (by simp) (by simp) (by simp) (by simp) (by simp) (by simp) (by simp) (by simp)
    (by simp) (.inr (by simp)) (.inr (by simp))
@[simp] theorem kindAt_setEiDelay (v : Bool) (b : Word) : (s.setEiDelay v).kindAt b = s.kindAt b := kindAt_congr (by simp) b

@[simp] theorem rawRead_raise (f : Fault) : (s.raise f).rawRead c = s.rawRead c :=
  rawRead_congr (by simp) (by simp) (by simp) (by simp) (by simp) (by simp) (by simp) (by simp) (by simp) (by simp) (by simp)
    (by simp) (.inr (by simp)) (.inr (by simp))
@[simp] theorem kindAt_raise (f : Fault) (b : Word) : (s.raise f).kindAt b = s.kindAt b := kindAt_congr (by simp) b

@[simp] theorem rawRead_setPc (v : Word) (hp : c ≠ .pc) : (s.setPc v).rawRead c = s.rawRead c :=
  rawRead_congr (by simp) (by simp) (by simp) (by simp) (by simp) (by simp) (by simp) (by simp) (by simp) (by simp) (by simp)
    (by simp) (.inl hp) (.inr (by simp))
@[simp] theorem kindAt_setPc (v : Word) (b : Word) : (s.setPc v).kindAt b = s.kindAt b := kindAt_congr (by simp) b
@[simp] theorem rawRead_setSp (v : Word) (h : c ≠ .sp) : (s.setSp v).rawRead c = s.rawRead c := by
  cases c <;> first | rfl | exact absurd rfl h
@[simp] theorem kindAt_setSp (v : Word) (b : Word) : (s.setSp v).kindAt b = s.kindAt b := kindAt_congr (by simp) b

@[simp] theorem rawRead_setF (v : Byte) (h : c ≠ .f) : (s.setF v).rawRead c = s.rawRead c := by
  cases c with
  | f => exact absurd rfl h
  | reg r => cases r <;> rfl
  | _ => rfl
@[simp] theorem kindAt_setF (v : Byte) (b : Word) : (s.setF v).kindAt b = s.kindAt b := kindAt_congr (by simp) b

@[simp] theorem rawRead_setI (v : Byte) (h : c ≠ .i) : (s.setI v).rawRead c = s.rawRead c := by
  cases c <;> first | rfl | exact absurd rfl h
@[simp] theorem kindAt_setI (v : Byte) (b : Word) : (s.setI v).kindAt b = s.kindAt b := kindAt_congr (by simp) b

@[simp] theorem rawRead_setIm (m : Nat) (h : c ≠ .im) : (s.setIm m).rawRead c = s.rawRead c := by
  cases c <;> first | rfl | exact absurd rfl h
@[simp] theorem kindAt_setIm (m : Nat) (b : Word) : (s.setIm m).kindAt b = s.kindAt b := kindAt_congr (by simp) b

@[simp] theorem rawRead_setHalted (v : Bool) (h : c ≠ .halted) : (s.setHalted v).rawRead c = s.rawRead c := by
  cases c <;> first | rfl | exact absurd rfl h
@[simp] theorem kindAt_setHalted (v : Bool) (b : Word) : (s.setHalted v).kindAt b = s.kindAt b := kindAt_congr (by simp) b

@[simp] theorem rawRead_setR (v : Byte) (h : c ≠ .r) : (s.setR v).rawRead c = s.rawRead c := by
  cases c <;> first | rfl | exact absurd rfl h
@[simp] theorem kindAt_setR (v : Byte) (b : Word) : (s.setR v).kindAt b = s.kindAt b := kindAt_congr (by simp) b

@[simp] theorem rawRead_bumpR  (h : c ≠ .r) : (s.bumpR).rawRead c = s.rawRead c := by
  cases c <;> first | rfl | exact absurd rfl h
@[simp] theorem kindAt_bumpR  (b : Word) : (s.bumpR).kindAt b = s.kindAt b := kindAt_congr (by simp) b

@[simp] theorem rawRead_setR8 (r : R8) (v : Byte) (h : c ≠ .reg r) : (s.setR8 r v).rawRead c = s.rawRead c := by
  cases c with
  | reg q => simp [State.rawRead, get_set_ne _ v (show q ≠ r from fun e => h (by rw [e]))]
  | half xy g => cases xy <;> cases g <;> rfl
  | f => simp [State.rawRead]
  | _ => rfl
@[simp] theorem kindAt_setR8 (r : R8) (v : Byte) (b : Word) : (s.setR8 r v).kindAt b = s.kindAt b := kindAt_congr (by simp) b

@[simp] theorem rawRead_setHalf (xy : XY) (g : Half) (v : Byte) (h : c ≠ .half xy g) : (s.setHalf xy g v).rawRead c = s.rawRead c := by
  cases xy <;> cases g <;> cases c with
    | half xy' g' => cases xy' <;> cases g' <;> first | rfl | exact absurd rfl h
    | _ => rfl
@[simp] theorem kindAt_setHalf (xy : XY) (g : Half) (v : Byte) (b : Word) : (s.setHalf xy g v).kindAt b = s.kindAt b := kindAt_congr (by cases xy <;> cases g <;> rfl) b
@[simp] theorem rawRead_setIffs (v1 v2 : Bool) (h1 : c ≠ .iff1) (h2 : c ≠ .iff2) : (s.setIffs v1 v2).rawRead c = s.rawRead c := by
  cases c <;> first | rfl | exact absurd rfl h1 | exact absurd rfl h2
@[simp] theorem kindAt_setIffs (v1 v2 : Bool) (b : Word) : (s.setIffs v1 v2).kindAt b = s.kindAt b := by
  exact kindAt_congr (by simp) b

@[simp] theorem rawRead_setXy (xy : XY) (v : Word) (h1 : c ≠ .half xy .hi) (h2 : c ≠ .half xy .lo) : (s.setXy xy v).rawRead c = s.rawRead c := by
  cases xy <;> cases c with
    | half xy' g' => cases xy' <;> cases g' <;> first | rfl | exact absurd rfl h1 | exact absurd rfl h2
    | _ => rfl
@[simp] theorem kindAt_setXy (xy : XY) (v : Word) (b : Word) : (s.setXy xy v).kindAt b = s.kindAt b := by
  exact kindAt_congr (by cases xy <;> rfl) b

@[simp] theorem rawRead_setBc (v : Word) (h1 : c ≠ .reg .b) (h2 : c ≠ .reg .c) : (s.setBc v).rawRead c = s.rawRead c := by
  simp [State.setBc, h1, h2]
@[simp] theorem kindAt_setBc (v : Word) (b : Word) : (s.setBc v).kindAt b = s.kindAt b := by
  simp [State.setBc]

@[simp] theorem rawRead_setDe (v : Word) (h1 : c ≠ .reg .d) (h2 : c ≠ .reg .e) : (s.setDe v).rawRead c = s.rawRead c := by
  simp [State.setDe, h1, h2]
@[simp] theorem kindAt_setDe (v : Word) (b : Word) : (s.setDe v).kindAt b = s.kindAt b := by
  simp [State.setDe]

@[simp] theorem rawRead_setHl (v : Word) (h1 : c ≠ .reg .h) (h2 : c ≠ .reg .l) : (s.setHl v).rawRead c = s.rawRead c := by
  simp [State.setHl, h1, h2]
@[simp] theorem kindAt_setHl (v : Word) (b : Word) : (s.setHl v).kindAt b = s.kindAt b := by
  simp [State.setHl]

@[simp] theorem rawRead_setAf (v : Word) (h1 : c ≠ .reg .a) (h2 : c ≠ .f) : (s.setAf v).rawRead c = s.rawRead c := by
  simp [State.setAf, h1, h2]
@[simp] theorem kindAt_setAf (v : Word) (b : Word) : (s.setAf v).kindAt b = s.kindAt b := by
  simp [State.setAf]

@[simp] theorem rawRead_setRp (p : RP) (v : Word) (h : c ∉ rpCells p) : (s.setRp p v).rawRead c = s.rawRead c := by
  cases p <;> simp_all [State.setRp, rpCells]
@[simp] theorem kindAt_setRp (p : RP) (v : Word) (b : Word) : (s.setRp p v).kindAt b = s.kindAt b := by
  cases p <;> simp [State.setRp]

@[simp] theorem rawRead_setRp2 (p : RP2) (v : Word) (h : c ∉ rp2Cells p) : (s.setRp2 p v).rawRead c = s.rawRead c := by
  cases p <;> simp_all [State.setRp2, rp2Cells]
@[simp] theorem kindAt_setRp2 (p : RP2) (v : Word) (b : Word) : (s.setRp2 p v).kindAt b = s.kindAt b := by
  cases p <;> simp [State.setRp2]

@[simp] theorem rawRead_setXReg (xy : XY) (r : XReg) (v : Byte) (h : c ≠ xregCell xy r) : (s.setXReg xy r v).rawRead c = s.rawRead c := by
  cases r <;> simp_all [State.setXReg, xregCell]
@[simp] theorem kindAt_setXReg (xy : XY) (r : XReg) (v : Byte) (b : Word) : (s.setXReg xy r v).kindAt b = s.kindAt b := by
  cases r <;> simp [State.setXReg]

@[simp] theorem rawRead_afterReadWord (a : Word) (ht : c ≠ .t) : (s.afterReadWord a).rawRead c = s.rawRead c := by
  simp [State.afterReadWord, ht]
@[simp] theorem kindAt_afterReadWord (a : Word) (b : Word) : (s.afterReadWord a).kindAt b = s.kindAt b := by
  simp [State.afterReadWord]

@[simp] theorem rawRead_writeWord (a v : Word) (ht : c ≠ .t) : (s.writeWord a v).rawRead c = s.rawRead c := by
  simp [State.writeWord, ht]
@[simp] theorem kindAt_writeWord (a v : Word) (b : Word) : (s.writeWord a v).kindAt b = s.kindAt b := by
  simp [State.writeWord]

@[simp] theorem rawRead_modifyByte (a : Word) (v : Byte) (ht : c ≠ .t) : (s.modifyByte a v).rawRead c = s.rawRead c := by
  simp [State.modifyByte, ht]
@[simp] theorem kindAt_modifyByte (a : Word) (v : Byte) (b : Word) : (s.modifyByte a v).kindAt b = s.kindAt b := by
  simp [State.modifyByte]

@[simp] theorem rawRead_push (v : Word) (hs : c ≠ .sp) (ht : c ≠ .t) : (s.push v).rawRead c = s.rawRead c := by
  simp [State.push, hs, ht]
@[simp] theorem kindAt_push (v : Word) (b : Word) : (s.push v).kindAt b = s.kindAt b := by
  simp [State.push]

@[simp] theorem rawRead_afterPop  (hs : c ≠ .sp) (ht : c ≠ .t) : (s.afterPop).rawRead c = s.rawRead c := by
  simp [State.afterPop, hs, ht]
@[simp] theorem kindAt_afterPop  (b : Word) : (s.afterPop).kindAt b = s.kindAt b := by
  simp [State.afterPop]

@[simp] theorem rawRead_fetchImm2  (hp : c ≠ .pc) (ht : c ≠ .t) : (s.fetchImm2).rawRead c = s.rawRead c := by
  simp [State.fetchImm2, hp, ht]
@[simp] theorem kindAt_fetchImm2  (b : Word) : (s.fetchImm2).kindAt b = s.kindAt b := by
  simp [State.fetchImm2]

@[simp] theorem rawRead_fetchDisp  (hp : c ≠ .pc) (ht : c ≠ .t) : (s.fetchDisp).rawRead c = s.rawRead c := by
  simp [State.fetchDisp, hp, ht]
@[simp] theorem kindAt_fetchDisp  (b : Word) : (s.fetchDisp).kindAt b = s.kindAt b := by
  simp [State.fetchDisp]

@[simp] theorem rawRead_fetchSubOp  (hp : c ≠ .pc) (ht : c ≠ .t) : (s.fetchSubOp).rawRead c = s.rawRead c := by
  simp [State.fetchSubOp, hp, ht]
@[simp] theorem kindAt_fetchSubOp  (b : Word) : (s.fetchSubOp).kindAt b = s.kindAt b := by
  simp [State.fetchSubOp]

@[simp] theorem rawRead_enterIndexedCb (xy : XY) (d : Byte) (hp : c ≠ .pc) (ht : c ≠ .t) : (s.enterIndexedCb xy d).rawRead c = s.rawRead c := by
  simp [State.enterIndexedCb, hp, ht]
@[simp] theorem kindAt_enterIndexedCb (xy : XY) (d : Byte) (b : Word) : (s.enterIndexedCb xy d).kindAt b = s.kindAt b := by
  simp [State.enterIndexedCb]

@[simp] theorem rawRead_afterPortRead (p : Word) (ht : c ≠ .t) : (s.afterPortRead p).rawRead c = s.rawRead c := by
  simp [State.afterPortRead, ht]
@[simp] theorem kindAt_afterPortRead (p : Word) (b : Word) : (s.afterPortRead p).kindAt b = s.kindAt b := by
  simp [State.afterPortRead]

@[simp] theorem rawRead_portWrite (p : Word) (v : Byte) (ht : c ≠ .t) : (s.portWrite p v).rawRead c = s.rawRead c := by
  simp [State.portWrite, ht]
@[simp] theorem kindAt_portWrite (p : Word) (v : Byte) (b : Word) : (s.portWrite p v).kindAt b = s.kindAt b := by
  simp [State.portWrite]

@[simp] theorem rawRead_afterSource (src : Source) (hp : c ≠ .pc) (ht : c ≠ .t) : (s.afterSource src).rawRead c = s.rawRead c := by
  cases src <;> simp [State.afterSource, hp, ht]
@[simp] theorem kindAt_afterSource (src : Source) (b : Word) : (s.afterSource src).kindAt b = s.kindAt b := by
  cases src <;> simp [State.afterSource]

end

end Sys2Proof.Machine
end

