-- ==== Sys2Proof/Laws/Block.lean ====
section
/-! SUPPORT. The repeat engine of the block instructions, the unit of work of each (every field it leaves, and what it stores), and
the return from an interrupt. -/

namespace Sys2Proof.Machine

section
variable (s : State) (again : Bool) (k : BusKind) (a : Word)

@[simp] theorem repeatIf_main : (s.repeatIf again k a).main = s.main := by cases again <;> simp [State.repeatIf]
@[simp] theorem repeatIf_shadow : (s.repeatIf again k a).shadow = s.shadow := by cases again <;> simp [State.repeatIf]
@[simp] theorem repeatIf_ix : (s.repeatIf again k a).ix = s.ix := by cases again <;> simp [State.repeatIf]
@[simp] theorem repeatIf_iy : (s.repeatIf again k a).iy = s.iy := by cases again <;> simp [State.repeatIf]
@[simp] theorem repeatIf_sp : (s.repeatIf again k a).sp = s.sp := by cases again <;> simp [State.repeatIf]
@[simp] theorem repeatIf_scr : (s.repeatIf again k a).scr = s.scr := by cases again <;> simp [State.repeatIf]
@[simp] theorem repeatIf_i : (s.repeatIf again k a).i = s.i := by cases again <;> simp [State.repeatIf]
@[simp] theorem repeatIf_rLow : (s.repeatIf again k a).rLow = s.rLow := by cases again <;> simp [State.repeatIf]
@[simp] theorem repeatIf_rB7 : (s.repeatIf again k a).rB7 = s.rB7 := by cases again <;> simp [State.repeatIf]
@[simp] theorem repeatIf_iff1 : (s.repeatIf again k a).iff1 = s.iff1 := by cases again <;> simp [State.repeatIf]
@[simp] theorem repeatIf_iff2 : (s.repeatIf again k a).iff2 = s.iff2 := by cases again <;> simp [State.repeatIf]
@[simp] theorem repeatIf_im : (s.repeatIf again k a).im = s.im := by cases again <;> simp [State.repeatIf]
@[simp] theorem repeatIf_halted : (s.repeatIf again k a).halted = s.halted := by cases again <;> simp [State.repeatIf]
@[simp] theorem repeatIf_eiDelay : (s.repeatIf again k a).eiDelay = s.eiDelay := by cases again <;> simp [State.repeatIf]
@[simp] theorem repeatIf_faulted : (s.repeatIf again k a).faulted = s.faulted := by cases again <;> simp [State.repeatIf]
@[simp] theorem repeatIf_resetDone : (s.repeatIf again k a).resetDone = s.resetDone := by cases again <;> simp [State.repeatIf]
@[simp] theorem repeatIf_mem : (s.repeatIf again k a).mem = s.mem := by cases again <;> simp [State.repeatIf]
@[simp] theorem repeatIf_events : (s.repeatIf again k a).events = s.events := by cases again <;> simp [State.repeatIf]
@[simp] theorem repeatIf_draws : (s.repeatIf again k a).draws = s.draws := by cases again <;> simp [State.repeatIf]
@[simp] theorem repeatIf_answers : (s.repeatIf again k a).answers = s.answers := by cases again <;> simp [State.repeatIf]
@[simp] theorem repeatIf_platform : (s.repeatIf again k a).platform = s.platform := by cases again <;> simp [State.repeatIf]

/-- The repeat engine moves PC two back exactly when it repeats. -/
@[simp] theorem repeatIf_pc : (s.repeatIf again k a).pc = if again then s.pc - 2 else s.pc := by
  cases again <;> simp [State.repeatIf]

/-- The repeat engine costs five T-states when it repeats. -/
theorem repeatIf_t (h : s.platform.contended = false) : (s.repeatIf again k a).t = s.t + if again then 5 else 0 := by
  cases again <;> simp [State.repeatIf, ticks_t, h]

@[simp] theorem rawRead_repeatIf {c : RawCell} (hp : c ≠ .pc) (ht : c ≠ .t) : (s.repeatIf again k a).rawRead c = s.rawRead c := by
  cases again <;> simp [State.repeatIf, hp, ht]

@[simp] theorem kindAt_repeatIf (b : Word) : (s.repeatIf again k a).kindAt b = s.kindAt b := kindAt_congr (by simp) b

end

/-- A store depends on the map and the contents alone. -/
theorem storeByte_mem_congr {s t : State} (hp : t.platform = s.platform) (hm : t.mem = s.mem) (a : Word) (v : Byte) :
    (t.storeByte a v).mem = (s.storeByte a v).mem := by
  unfold State.storeByte
  rw [kindAt_congr hp]
  split <;> simp [hm]

/-! ### LDI and LDD -/

section
variable (s : State) (dir : Dir)

@[simp] theorem ldStep_shadow : (s.ldStep dir).shadow = s.shadow := by
  simp only [State.ldStep, State.ldUnit, State.stepHl, State.stepDe, ↓afterRead_shadow, ↓memWrite_shadow, ↓noMreqWrite_shadow, ↓setBc_shadow, ↓setF_shadow, ↓setHl_shadow, ↓setDe_shadow]
@[simp] theorem ldStep_ix : (s.ldStep dir).ix = s.ix := by
  simp only [State.ldStep, State.ldUnit, State.stepHl, State.stepDe, ↓afterRead_ix, ↓memWrite_ix, ↓noMreqWrite_ix, ↓setBc_ix, ↓setF_ix, ↓setHl_ix, ↓setDe_ix]
@[simp] theorem ldStep_iy : (s.ldStep dir).iy = s.iy := by
  simp only [State.ldStep, State.ldUnit, State.stepHl, State.stepDe, ↓afterRead_iy, ↓memWrite_iy, ↓noMreqWrite_iy, ↓setBc_iy, ↓setF_iy, ↓setHl_iy, ↓setDe_iy]
@[simp] theorem ldStep_sp : (s.ldStep dir).sp = s.sp := by
  simp only [State.ldStep, State.ldUnit, State.stepHl, State.stepDe, ↓afterRead_sp, ↓memWrite_sp, ↓noMreqWrite_sp, ↓setBc_sp, ↓setF_sp, ↓setHl_sp, ↓setDe_sp]
@[simp] theorem ldStep_scr : (s.ldStep dir).scr = s.scr := by
  simp only [State.ldStep, State.ldUnit, State.stepHl, State.stepDe, ↓afterRead_scr, ↓memWrite_scr, ↓noMreqWrite_scr, ↓setBc_scr, ↓setF_scr, ↓setHl_scr, ↓setDe_scr]
@[simp] theorem ldStep_i : (s.ldStep dir).i = s.i := by
  simp only [State.ldStep, State.ldUnit, State.stepHl, State.stepDe, ↓afterRead_i, ↓memWrite_i, ↓noMreqWrite_i, ↓setBc_i, ↓setF_i, ↓setHl_i, ↓setDe_i]
@[simp] theorem ldStep_rLow : (s.ldStep dir).rLow = s.rLow := by
  simp only [State.ldStep, State.ldUnit, State.stepHl, State.stepDe, ↓afterRead_rLow, ↓memWrite_rLow, ↓noMreqWrite_rLow, ↓setBc_rLow, ↓setF_rLow, ↓setHl_rLow, ↓setDe_rLow]
@[simp] theorem ldStep_rB7 : (s.ldStep dir).rB7 = s.rB7 := by
  simp only [State.ldStep, State.ldUnit, State.stepHl, State.stepDe, ↓afterRead_rB7, ↓memWrite_rB7, ↓noMreqWrite_rB7, ↓setBc_rB7, ↓setF_rB7, ↓setHl_rB7, ↓setDe_rB7]
@[simp] theorem ldStep_iff1 : (s.ldStep dir).iff1 = s.iff1 := by
  simp only [State.ldStep, State.ldUnit, State.stepHl, State.stepDe, ↓afterRead_iff1, ↓memWrite_iff1, ↓noMreqWrite_iff1, ↓setBc_iff1, ↓setF_iff1, ↓setHl_iff1, ↓setDe_iff1]
@[simp] theorem ldStep_iff2 : (s.ldStep dir).iff2 = s.iff2 := by
  simp only [State.ldStep, State.ldUnit, State.stepHl, State.stepDe, ↓afterRead_iff2, ↓memWrite_iff2, ↓noMreqWrite_iff2, ↓setBc_iff2, ↓setF_iff2, ↓setHl_iff2, ↓setDe_iff2]
@[simp] theorem ldStep_im : (s.ldStep dir).im = s.im := by
  simp only [State.ldStep, State.ldUnit, State.stepHl, State.stepDe, ↓afterRead_im, ↓memWrite_im, ↓noMreqWrite_im, ↓setBc_im, ↓setF_im, ↓setHl_im, ↓setDe_im]
@[simp] theorem ldStep_halted : (s.ldStep dir).halted = s.halted := by
  simp only [State.ldStep, State.ldUnit, State.stepHl, State.stepDe, ↓afterRead_halted, ↓memWrite_halted, ↓noMreqWrite_halted, ↓setBc_halted, ↓setF_halted, ↓setHl_halted, ↓setDe_halted]
@[simp] theorem ldStep_eiDelay : (s.ldStep dir).eiDelay = s.eiDelay := by
  simp only [State.ldStep, State.ldUnit, State.stepHl, State.stepDe, ↓afterRead_eiDelay, ↓memWrite_eiDelay, ↓noMreqWrite_eiDelay, ↓setBc_eiDelay, ↓setF_eiDelay, ↓setHl_eiDelay, ↓setDe_eiDelay]
@[simp] theorem ldStep_faulted : (s.ldStep dir).faulted = s.faulted := by
  simp only [State.ldStep, State.ldUnit, State.stepHl, State.stepDe, ↓afterRead_faulted, ↓memWrite_faulted, ↓noMreqWrite_faulted, ↓setBc_faulted, ↓setF_faulted, ↓setHl_faulted, ↓setDe_faulted]
@[simp] theorem ldStep_resetDone : (s.ldStep dir).resetDone = s.resetDone := by
  simp only [State.ldStep, State.ldUnit, State.stepHl, State.stepDe, ↓afterRead_resetDone, ↓memWrite_resetDone, ↓noMreqWrite_resetDone, ↓setBc_resetDone, ↓setF_resetDone, ↓setHl_resetDone, ↓setDe_resetDone]
@[simp] theorem ldStep_platform : (s.ldStep dir).platform = s.platform := by
  simp only [State.ldStep, State.ldUnit, State.stepHl, State.stepDe, ↓afterRead_platform, ↓memWrite_platform, ↓noMreqWrite_platform, ↓setBc_platform, ↓setF_platform, ↓setHl_platform, ↓setDe_platform]
@[simp] theorem ldStep_pc : (s.ldStep dir).pc = s.pc := by
  simp only [State.ldStep, State.ldUnit, State.stepHl, State.stepDe, ↓afterRead_pc, ↓memWrite_pc, ↓noMreqWrite_pc, ↓setBc_pc, ↓setF_pc, ↓setHl_pc, ↓setDe_pc]
@[simp] theorem ldStep_events : (s.ldStep dir).events = s.events := by
  simp only [State.ldStep, State.ldUnit, State.stepHl, State.stepDe, ↓afterRead_events, ↓memWrite_events, ↓noMreqWrite_events, ↓setBc_events, ↓setF_events, ↓setHl_events, ↓setDe_events]
@[simp] theorem ldStep_mem : (s.ldStep dir).mem = (s.storeByte s.de (s.byteAt s.hl)).mem := by
  simp only [State.ldStep, State.ldUnit, State.stepHl, State.stepDe, ↓memWrite_mem, ↓noMreqWrite_mem, ↓setBc_mem, ↓setF_mem, ↓setHl_mem, ↓setDe_mem]
  exact storeByte_mem_congr (by simp) (by simp) _ _
@[simp] theorem kindAt_ldStep (b : Word) : (s.ldStep dir).kindAt b = s.kindAt b := kindAt_congr (by simp) b

end

/-! ### LDIR and LDDR -/

section
variable (s : State) (dir : Dir)

@[simp] theorem ldRepeat_shadow : (s.ldRepeat dir).shadow = s.shadow := by
  simp only [State.ldRepeat, State.ldUnit, State.stepHl, State.stepDe, ↓afterRead_shadow, ↓memWrite_shadow, ↓noMreqWrite_shadow, ↓setBc_shadow, ↓setF_shadow, ↓setHl_shadow, ↓setDe_shadow, ↓repeatIf_shadow]
@[simp] theorem ldRepeat_ix : (s.ldRepeat dir).ix = s.ix := by
  simp only [State.ldRepeat, State.ldUnit, State.stepHl, State.stepDe, ↓afterRead_ix, ↓memWrite_ix, ↓noMreqWrite_ix, ↓setBc_ix, ↓setF_ix, ↓setHl_ix, ↓setDe_ix, ↓repeatIf_ix]
@[simp] theorem ldRepeat_iy : (s.ldRepeat dir).iy = s.iy := by
  simp only [State.ldRepeat, State.ldUnit, State.stepHl, State.stepDe, ↓afterRead_iy, ↓memWrite_iy, ↓noMreqWrite_iy, ↓setBc_iy, ↓setF_iy, ↓setHl_iy, ↓setDe_iy, ↓repeatIf_iy]
@[simp] theorem ldRepeat_sp : (s.ldRepeat dir).sp = s.sp := by
  simp only [State.ldRepeat, State.ldUnit, State.stepHl, State.stepDe, ↓afterRead_sp, ↓memWrite_sp, ↓noMreqWrite_sp, ↓setBc_sp, ↓setF_sp, ↓setHl_sp, ↓setDe_sp, ↓repeatIf_sp]
@[simp] theorem ldRepeat_scr : (s.ldRepeat dir).scr = s.scr := by
  simp only [State.ldRepeat, State.ldUnit, State.stepHl, State.stepDe, ↓afterRead_scr, ↓memWrite_scr, ↓noMreqWrite_scr, ↓setBc_scr, ↓setF_scr, ↓setHl_scr, ↓setDe_scr, ↓repeatIf_scr]
@[simp] theorem ldRepeat_i : (s.ldRepeat dir).i = s.i := by
  simp only [State.ldRepeat, State.ldUnit, State.stepHl, State.stepDe, ↓afterRead_i, ↓memWrite_i, ↓noMreqWrite_i, ↓setBc_i, ↓setF_i, ↓setHl_i, ↓setDe_i, ↓repeatIf_i]
@[simp] theorem ldRepeat_rLow : (s.ldRepeat dir).rLow = s.rLow := by
  simp only [State.ldRepeat, State.ldUnit, State.stepHl, State.stepDe, ↓afterRead_rLow, ↓memWrite_rLow, ↓noMreqWrite_rLow, ↓setBc_rLow, ↓setF_rLow, ↓setHl_rLow, ↓setDe_rLow, ↓repeatIf_rLow]
@[simp] theorem ldRepeat_rB7 : (s.ldRepeat dir).rB7 = s.rB7 := by
  simp only [State.ldRepeat, State.ldUnit, State.stepHl, State.stepDe, ↓afterRead_rB7, ↓memWrite_rB7, ↓noMreqWrite_rB7, ↓setBc_rB7, ↓setF_rB7, ↓setHl_rB7, ↓setDe_rB7, ↓repeatIf_rB7]
@[simp] theorem ldRepeat_iff1 : (s.ldRepeat dir).iff1 = s.iff1 := by
  simp only [State.ldRepeat, State.ldUnit, State.stepHl, State.stepDe, ↓afterRead_iff1, ↓memWrite_iff1, ↓noMreqWrite_iff1, ↓setBc_iff1, ↓setF_iff1, ↓setHl_iff1, ↓setDe_iff1, ↓repeatIf_iff1]
@[simp] theorem ldRepeat_iff2 : (s.ldRepeat dir).iff2 = s.iff2 := by
  simp only [State.ldRepeat, State.ldUnit, State.stepHl, State.stepDe, ↓afterRead_iff2, ↓memWrite_iff2, ↓noMreqWrite_iff2, ↓setBc_iff2, ↓setF_iff2, ↓setHl_iff2, ↓setDe_iff2, ↓repeatIf_iff2]
@[simp] theorem ldRepeat_im : (s.ldRepeat dir).im = s.im := by
  simp only [State.ldRepeat, State.ldUnit, State.stepHl, State.stepDe, ↓afterRead_im, ↓memWrite_im, ↓noMreqWrite_im, ↓setBc_im, ↓setF_im, ↓setHl_im, ↓setDe_im, ↓repeatIf_im]
@[simp] theorem ldRepeat_halted : (s.ldRepeat dir).halted = s.halted := by
  simp only [State.ldRepeat, State.ldUnit, State.stepHl, State.stepDe, ↓afterRead_halted, ↓memWrite_halted, ↓noMreqWrite_halted, ↓setBc_halted, ↓setF_halted, ↓setHl_halted, ↓setDe_halted, ↓repeatIf_halted]
@[simp] theorem ldRepeat_eiDelay : (s.ldRepeat dir).eiDelay = s.eiDelay := by
  simp only [State.ldRepeat, State.ldUnit, State.stepHl, State.stepDe, ↓afterRead_eiDelay, ↓memWrite_eiDelay, ↓noMreqWrite_eiDelay, ↓setBc_eiDelay, ↓setF_eiDelay, ↓setHl_eiDelay, ↓setDe_eiDelay, ↓repeatIf_eiDelay]
@[simp] theorem ldRepeat_faulted : (s.ldRepeat dir).faulted = s.faulted := by
  simp only [State.ldRepeat, State.ldUnit, State.stepHl, State.stepDe, ↓afterRead_faulted, ↓memWrite_faulted, ↓noMreqWrite_faulted, ↓setBc_faulted, ↓setF_faulted, ↓setHl_faulted, ↓setDe_faulted, ↓repeatIf_faulted]
@[simp] theorem ldRepeat_resetDone : (s.ldRepeat dir).resetDone = s.resetDone := by
  simp only [State.ldRepeat, State.ldUnit, State.stepHl, State.stepDe, ↓afterRead_resetDone, ↓memWrite_resetDone, ↓noMreqWrite_resetDone, ↓setBc_resetDone, ↓setF_resetDone, ↓setHl_resetDone, ↓setDe_resetDone, ↓repeatIf_resetDone]
@[simp] theorem ldRepeat_platform : (s.ldRepeat dir).platform = s.platform := by
  simp only [State.ldRepeat, State.ldUnit, State.stepHl, State.stepDe, ↓afterRead_platform, ↓memWrite_platform, ↓noMreqWrite_platform, ↓setBc_platform, ↓setF_platform, ↓setHl_platform, ↓setDe_platform, ↓repeatIf_platform]
@[simp] theorem ldRepeat_events : (s.ldRepeat dir).events = s.events := by
  simp only [State.ldRepeat, State.ldUnit, State.stepHl, State.stepDe, ↓afterRead_events, ↓memWrite_events, ↓noMreqWrite_events, ↓setBc_events, ↓setF_events, ↓setHl_events, ↓setDe_events, ↓repeatIf_events]
@[simp] theorem ldRepeat_mem : (s.ldRepeat dir).mem = (s.storeByte s.de (s.byteAt s.hl)).mem := by
  simp only [State.ldRepeat, State.ldUnit, State.stepHl, State.stepDe, ↓memWrite_mem, ↓noMreqWrite_mem, ↓setBc_mem, ↓setF_mem, ↓setHl_mem, ↓setDe_mem, ↓repeatIf_mem]
  exact storeByte_mem_congr (by simp) (by simp) _ _
@[simp] theorem kindAt_ldRepeat (b : Word) : (s.ldRepeat dir).kindAt b = s.kindAt b := kindAt_congr (by simp) b

end

/-! ### CPI and CPD -/

section
variable (s : State) (dir : Dir)

@[simp] theorem cpStep_shadow : (s.cpStep dir).shadow = s.shadow := by
  simp only [State.cpStep, State.cpUnit, State.stepHl, ↓afterRead_shadow, ↓noMreq_shadow, ↓setBc_shadow, ↓setF_shadow, ↓setHl_shadow]
@[simp] theorem cpStep_ix : (s.cpStep dir).ix = s.ix := by
  simp only [State.cpStep, State.cpUnit, State.stepHl, ↓afterRead_ix, ↓noMreq_ix, ↓setBc_ix, ↓setF_ix, ↓setHl_ix]
@[simp] theorem cpStep_iy : (s.cpStep dir).iy = s.iy := by
  simp only [State.cpStep, State.cpUnit, State.stepHl, ↓afterRead_iy, ↓noMreq_iy, ↓setBc_iy, ↓setF_iy, ↓setHl_iy]
@[simp] theorem cpStep_sp : (s.cpStep dir).sp = s.sp := by
  simp only [State.cpStep, State.cpUnit, State.stepHl, ↓afterRead_sp, ↓noMreq_sp, ↓setBc_sp, ↓setF_sp, ↓setHl_sp]
@[simp] theorem cpStep_scr : (s.cpStep dir).scr = s.scr := by
  simp only [State.cpStep, State.cpUnit, State.stepHl, ↓afterRead_scr, ↓noMreq_scr, ↓setBc_scr, ↓setF_scr, ↓setHl_scr]
@[simp] theorem cpStep_i : (s.cpStep dir).i = s.i := by
  simp only [State.cpStep, State.cpUnit, State.stepHl, ↓afterRead_i, ↓noMreq_i, ↓setBc_i, ↓setF_i, ↓setHl_i]
@[simp] theorem cpStep_rLow : (s.cpStep dir).rLow = s.rLow := by
  simp only [State.cpStep, State.cpUnit, State.stepHl, ↓afterRead_rLow, ↓noMreq_rLow, ↓setBc_rLow, ↓setF_rLow, ↓setHl_rLow]
@[simp] theorem cpStep_rB7 : (s.cpStep dir).rB7 = s.rB7 := by
  simp only [State.cpStep, State.cpUnit, State.stepHl, ↓afterRead_rB7, ↓noMreq_rB7, ↓setBc_rB7, ↓setF_rB7, ↓setHl_rB7]
@[simp] theorem cpStep_iff1 : (s.cpStep dir).iff1 = s.iff1 := by
  simp only [State.cpStep, State.cpUnit, State.stepHl, ↓afterRead_iff1, ↓noMreq_iff1, ↓setBc_iff1, ↓setF_iff1, ↓setHl_iff1]
@[simp] theorem cpStep_iff2 : (s.cpStep dir).iff2 = s.iff2 := by
  simp only [State.cpStep, State.cpUnit, State.stepHl, ↓afterRead_iff2, ↓noMreq_iff2, ↓setBc_iff2, ↓setF_iff2, ↓setHl_iff2]
@[simp] theorem cpStep_im : (s.cpStep dir).im = s.im := by
  simp only [State.cpStep, State.cpUnit, State.stepHl, ↓afterRead_im, ↓noMreq_im, ↓setBc_im, ↓setF_im, ↓setHl_im]
@[simp] theorem cpStep_halted : (s.cpStep dir).halted = s.halted := by
  simp only [State.cpStep, State.cpUnit, State.stepHl, ↓afterRead_halted, ↓noMreq_halted, ↓setBc_halted, ↓setF_halted, ↓setHl_halted]
@[simp] theorem cpStep_eiDelay : (s.cpStep dir).eiDelay = s.eiDelay := by
  simp only [State.cpStep, State.cpUnit, State.stepHl, ↓afterRead_eiDelay, ↓noMreq_eiDelay, ↓setBc_eiDelay, ↓setF_eiDelay, ↓setHl_eiDelay]
@[simp] theorem cpStep_faulted : (s.cpStep dir).faulted = s.faulted := by
  simp only [State.cpStep, State.cpUnit, State.stepHl, ↓afterRead_faulted, ↓noMreq_faulted, ↓setBc_faulted, ↓setF_faulted, ↓setHl_faulted]
@[simp] theorem cpStep_resetDone : (s.cpStep dir).resetDone = s.resetDone := by
  simp only [State.cpStep, State.cpUnit, State.stepHl, ↓afterRead_resetDone, ↓noMreq_resetDone, ↓setBc_resetDone, ↓setF_resetDone, ↓setHl_resetDone]
@[simp] theorem cpStep_platform : (s.cpStep dir).platform = s.platform := by
  simp only [State.cpStep, State.cpUnit, State.stepHl, ↓afterRead_platform, ↓noMreq_platform, ↓setBc_platform, ↓setF_platform, ↓setHl_platform]
@[simp] theorem cpStep_pc : (s.cpStep dir).pc = s.pc := by
  simp only [State.cpStep, State.cpUnit, State.stepHl, ↓afterRead_pc, ↓noMreq_pc, ↓setBc_pc, ↓setF_pc, ↓setHl_pc]
@[simp] theorem cpStep_events : (s.cpStep dir).events = s.events := by
  simp only [State.cpStep, State.cpUnit, State.stepHl, ↓afterRead_events, ↓noMreq_events, ↓setBc_events, ↓setF_events, ↓setHl_events]
@[simp] theorem cpStep_mem : (s.cpStep dir).mem = s.mem := by
  simp only [State.cpStep, State.cpUnit, State.stepHl, ↓afterRead_mem, ↓noMreq_mem, ↓setBc_mem, ↓setF_mem, ↓setHl_mem]
@[simp] theorem kindAt_cpStep (b : Word) : (s.cpStep dir).kindAt b = s.kindAt b := kindAt_congr (by simp) b

end

/-! ### CPIR and CPDR -/

section
variable (s : State) (dir : Dir)

@[simp] theorem cpRepeat_shadow : (s.cpRepeat dir).shadow = s.shadow := by
  simp only [State.cpRepeat, State.cpUnit, State.stepHl, ↓afterRead_shadow, ↓noMreq_shadow, ↓setBc_shadow, ↓setF_shadow, ↓setHl_shadow, ↓repeatIf_shadow]
@[simp] theorem cpRepeat_ix : (s.cpRepeat dir).ix = s.ix := by
  simp only [State.cpRepeat, State.cpUnit, State.stepHl, ↓afterRead_ix, ↓noMreq_ix, ↓setBc_ix, ↓setF_ix, ↓setHl_ix, ↓repeatIf_ix]
@[simp] theorem cpRepeat_iy : (s.cpRepeat dir).iy = s.iy := by
  simp only [State.cpRepeat, State.cpUnit, State.stepHl, ↓afterRead_iy, ↓noMreq_iy, ↓setBc_iy, ↓setF_iy, ↓setHl_iy, ↓repeatIf_iy]
@[simp] theorem cpRepeat_sp : (s.cpRepeat dir).sp = s.sp := by
  simp only [State.cpRepeat, State.cpUnit, State.stepHl, ↓afterRead_sp, ↓noMreq_sp, ↓setBc_sp, ↓setF_sp, ↓setHl_sp, ↓repeatIf_sp]
@[simp] theorem cpRepeat_scr : (s.cpRepeat dir).scr = s.scr := by
  simp only [State.cpRepeat, State.cpUnit, State.stepHl, ↓afterRead_scr, ↓noMreq_scr, ↓setBc_scr, ↓setF_scr, ↓setHl_scr, ↓repeatIf_scr]
@[simp] theorem cpRepeat_i : (s.cpRepeat dir).i = s.i := by
  simp only [State.cpRepeat, State.cpUnit, State.stepHl, ↓afterRead_i, ↓noMreq_i, ↓setBc_i, ↓setF_i, ↓setHl_i, ↓repeatIf_i]
@[simp] theorem cpRepeat_rLow : (s.cpRepeat dir).rLow = s.rLow := by
  simp only [State.cpRepeat, State.cpUnit, State.stepHl, ↓afterRead_rLow, ↓noMreq_rLow, ↓setBc_rLow, ↓setF_rLow, ↓setHl_rLow, ↓repeatIf_rLow]
@[simp] theorem cpRepeat_rB7 : (s.cpRepeat dir).rB7 = s.rB7 := by
  simp only [State.cpRepeat, State.cpUnit, State.stepHl, ↓afterRead_rB7, ↓noMreq_rB7, ↓setBc_rB7, ↓setF_rB7, ↓setHl_rB7, ↓repeatIf_rB7]
@[simp] theorem cpRepeat_iff1 : (s.cpRepeat dir).iff1 = s.iff1 := by
  simp only [State.cpRepeat, State.cpUnit, State.stepHl, ↓afterRead_iff1, ↓noMreq_iff1, ↓setBc_iff1, ↓setF_iff1, ↓setHl_iff1, ↓repeatIf_iff1]
@[simp] theorem cpRepeat_iff2 : (s.cpRepeat dir).iff2 = s.iff2 := by
  simp only [State.cpRepeat, State.cpUnit, State.stepHl, ↓afterRead_iff2, ↓noMreq_iff2, ↓setBc_iff2, ↓setF_iff2, ↓setHl_iff2, ↓repeatIf_iff2]
@[simp] theorem cpRepeat_im : (s.cpRepeat dir).im = s.im := by
  simp only [State.cpRepeat, State.cpUnit, State.stepHl, ↓afterRead_im, ↓noMreq_im, ↓setBc_im, ↓setF_im, ↓setHl_im, ↓repeatIf_im]
@[simp] theorem cpRepeat_halted : (s.cpRepeat dir).halted = s.halted := by
  simp only [State.cpRepeat, State.cpUnit, State.stepHl, ↓afterRead_halted, ↓noMreq_halted, ↓setBc_halted, ↓setF_halted, ↓setHl_halted, ↓repeatIf_halted]
@[simp] theorem cpRepeat_eiDelay : (s.cpRepeat dir).eiDelay = s.eiDelay := by
  simp only [State.cpRepeat, State.cpUnit, State.stepHl, ↓afterRead_eiDelay, ↓noMreq_eiDelay, ↓setBc_eiDelay, ↓setF_eiDelay, ↓setHl_eiDelay, ↓repeatIf_eiDelay]
@[simp] theorem cpRepeat_faulted : (s.cpRepeat dir).faulted = s.faulted := by
  simp only [State.cpRepeat, State.cpUnit, State.stepHl, ↓afterRead_faulted, ↓noMreq_faulted, ↓setBc_faulted, ↓setF_faulted, ↓setHl_faulted, ↓repeatIf_faulted]
@[simp] theorem cpRepeat_resetDone : (s.cpRepeat dir).resetDone = s.resetDone := by
  simp only [State.cpRepeat, State.cpUnit, State.stepHl, ↓afterRead_resetDone, ↓noMreq_resetDone, ↓setBc_resetDone, ↓setF_resetDone, ↓setHl_resetDone, ↓repeatIf_resetDone]
@[simp] theorem cpRepeat_platform : (s.cpRepeat dir).platform = s.platform := by
  simp only [State.cpRepeat, State.cpUnit, State.stepHl, ↓afterRead_platform, ↓noMreq_platform, ↓setBc_platform, ↓setF_platform, ↓setHl_platform, ↓repeatIf_platform]
@[simp] theorem cpRepeat_events : (s.cpRepeat dir).events = s.events := by
  simp only [State.cpRepeat, State.cpUnit, State.stepHl, ↓afterRead_events, ↓noMreq_events, ↓setBc_events, ↓setF_events, ↓setHl_events, ↓repeatIf_events]
@[simp] theorem cpRepeat_mem : (s.cpRepeat dir).mem = s.mem := by
  simp only [State.cpRepeat, State.cpUnit, State.stepHl, ↓afterRead_mem, ↓noMreq_mem, ↓setBc_mem, ↓setF_mem, ↓setHl_mem, ↓repeatIf_mem]
@[simp] theorem kindAt_cpRepeat (b : Word) : (s.cpRepeat dir).kindAt b = s.kindAt b := kindAt_congr (by simp) b

end

/-! ### INI and IND -/

section
variable (s : State) (dir : Dir)

@[simp] theorem inStep_shadow : (s.inStep dir).shadow = s.shadow := by
  simp only [State.inStep, State.inUnit, State.stepHl, ↓noMreq_shadow, ↓afterPortRead_shadow, ↓memWrite_shadow, ↓setR8_shadow, ↓setF_shadow, ↓setHl_shadow]
@[simp] theorem inStep_ix : (s.inStep dir).ix = s.ix := by
  simp only [State.inStep, State.inUnit, State.stepHl, ↓noMreq_ix, ↓afterPortRead_ix, ↓memWrite_ix, ↓setR8_ix, ↓setF_ix, ↓setHl_ix]
@[simp] theorem inStep_iy : (s.inStep dir).iy = s.iy := by
  simp only [State.inStep, State.inUnit, State.stepHl, ↓noMreq_iy, ↓afterPortRead_iy, ↓memWrite_iy, ↓setR8_iy, ↓setF_iy, ↓setHl_iy]
@[simp] theorem inStep_sp : (s.inStep dir).sp = s.sp := by
  simp only [State.inStep, State.inUnit, State.stepHl, ↓noMreq_sp, ↓afterPortRead_sp, ↓memWrite_sp, ↓setR8_sp, ↓setF_sp, ↓setHl_sp]
@[simp] theorem inStep_scr : (s.inStep dir).scr = s.scr := by
  simp only [State.inStep, State.inUnit, State.stepHl, ↓noMreq_scr, ↓afterPortRead_scr, ↓memWrite_scr, ↓setR8_scr, ↓setF_scr, ↓setHl_scr]
@[simp] theorem inStep_i : (s.inStep dir).i = s.i := by
  simp only [State.inStep, State.inUnit, State.stepHl, ↓noMreq_i, ↓afterPortRead_i, ↓memWrite_i, ↓setR8_i, ↓setF_i, ↓setHl_i]
@[simp] theorem inStep_rLow : (s.inStep dir).rLow = s.rLow := by
  simp only [State.inStep, State.inUnit, State.stepHl, ↓noMreq_rLow, ↓afterPortRead_rLow, ↓memWrite_rLow, ↓setR8_rLow, ↓setF_rLow, ↓setHl_rLow]
@[simp] theorem inStep_rB7 : (s.inStep dir).rB7 = s.rB7 := by
  simp only [State.inStep, State.inUnit, State.stepHl, ↓noMreq_rB7, ↓afterPortRead_rB7, ↓memWrite_rB7, ↓setR8_rB7, ↓setF_rB7, ↓setHl_rB7]
@[simp] theorem inStep_iff1 : (s.inStep dir).iff1 = s.iff1 := by
  simp only [State.inStep, State.inUnit, State.stepHl, ↓noMreq_iff1, ↓afterPortRead_iff1, ↓memWrite_iff1, ↓setR8_iff1, ↓setF_iff1, ↓setHl_iff1]
@[simp] theorem inStep_iff2 : (s.inStep dir).iff2 = s.iff2 := by
  simp only [State.inStep, State.inUnit, State.stepHl, ↓noMreq_iff2, ↓afterPortRead_iff2, ↓memWrite_iff2, ↓setR8_iff2, ↓setF_iff2, ↓setHl_iff2]
@[simp] theorem inStep_im : (s.inStep dir).im = s.im := by
  simp only [State.inStep, State.inUnit, State.stepHl, ↓noMreq_im, ↓afterPortRead_im, ↓memWrite_im, ↓setR8_im, ↓setF_im, ↓setHl_im]
@[simp] theorem inStep_halted : (s.inStep dir).halted = s.halted := by
  simp only [State.inStep, State.inUnit, State.stepHl, ↓noMreq_halted, ↓afterPortRead_halted, ↓memWrite_halted, ↓setR8_halted, ↓setF_halted, ↓setHl_halted]
@[simp] theorem inStep_eiDelay : (s.inStep dir).eiDelay = s.eiDelay := by
  simp only [State.inStep, State.inUnit, State.stepHl, ↓noMreq_eiDelay, ↓afterPortRead_eiDelay, ↓memWrite_eiDelay, ↓setR8_eiDelay, ↓setF_eiDelay, ↓setHl_eiDelay]
@[simp] theorem inStep_faulted : (s.inStep dir).faulted = s.faulted := by
  simp only [State.inStep, State.inUnit, State.stepHl, ↓noMreq_faulted, ↓afterPortRead_faulted, ↓memWrite_faulted, ↓setR8_faulted, ↓setF_faulted, ↓setHl_faulted]
@[simp] theorem inStep_resetDone : (s.inStep dir).resetDone = s.resetDone := by
  simp only [State.inStep, State.inUnit, State.stepHl, ↓noMreq_resetDone, ↓afterPortRead_resetDone, ↓memWrite_resetDone, ↓setR8_resetDone, ↓setF_resetDone, ↓setHl_resetDone]
@[simp] theorem inStep_platform : (s.inStep dir).platform = s.platform := by
  simp only [State.inStep, State.inUnit, State.stepHl, ↓noMreq_platform, ↓afterPortRead_platform, ↓memWrite_platform, ↓setR8_platform, ↓setF_platform, ↓setHl_platform]
@[simp] theorem inStep_pc : (s.inStep dir).pc = s.pc := by
  simp only [State.inStep, State.inUnit, State.stepHl, ↓noMreq_pc, ↓afterPortRead_pc, ↓memWrite_pc, ↓setR8_pc, ↓setF_pc, ↓setHl_pc]
@[simp] theorem inStep_mem : (s.inStep dir).mem = (s.storeByte s.hl ((s.noMreq s.ir 1).portByte s.bc)).mem := by
  simp only [State.inStep, State.inUnit, State.stepHl, ↓memWrite_mem, ↓setR8_mem, ↓setF_mem, ↓setHl_mem]
  exact storeByte_mem_congr (by simp) (by simp) _ _
@[simp] theorem kindAt_inStep (b : Word) : (s.inStep dir).kindAt b = s.kindAt b := kindAt_congr (by simp) b

end

/-! ### INIR and INDR -/

section
variable (s : State) (dir : Dir)

@[simp] theorem inRepeat_shadow : (s.inRepeat dir).shadow = s.shadow := by
  simp only [State.inRepeat, State.inUnit, State.stepHl, ↓noMreq_shadow, ↓afterPortRead_shadow, ↓memWrite_shadow, ↓setR8_shadow, ↓setF_shadow, ↓setHl_shadow, ↓repeatIf_shadow]
@[simp] theorem inRepeat_ix : (s.inRepeat dir).ix = s.ix := by
  simp only [State.inRepeat, State.inUnit, State.stepHl, ↓noMreq_ix, ↓afterPortRead_ix, ↓memWrite_ix, ↓setR8_ix, ↓setF_ix, ↓setHl_ix, ↓repeatIf_ix]
@[simp] theorem inRepeat_iy : (s.inRepeat dir).iy = s.iy := by
  simp only [State.inRepeat, State.inUnit, State.stepHl, ↓noMreq_iy, ↓afterPortRead_iy, ↓memWrite_iy, ↓setR8_iy, ↓setF_iy, ↓setHl_iy, ↓repeatIf_iy]
@[simp] theorem inRepeat_sp : (s.inRepeat dir).sp = s.sp := by
  simp only [State.inRepeat, State.inUnit, State.stepHl, ↓noMreq_sp, ↓afterPortRead_sp, ↓memWrite_sp, ↓setR8_sp, ↓setF_sp, ↓setHl_sp, ↓repeatIf_sp]
@[simp] theorem inRepeat_scr : (s.inRepeat dir).scr = s.scr := by
  simp only [State.inRepeat, State.inUnit, State.stepHl, ↓noMreq_scr, ↓afterPortRead_scr, ↓memWrite_scr, ↓setR8_scr, ↓setF_scr, ↓setHl_scr, ↓repeatIf_scr]
@[simp] theorem inRepeat_i : (s.inRepeat dir).i = s.i := by
  simp only [State.inRepeat, State.inUnit, State.stepHl, ↓noMreq_i, ↓afterPortRead_i, ↓memWrite_i, ↓setR8_i, ↓setF_i, ↓setHl_i, ↓repeatIf_i]
@[simp] theorem inRepeat_rLow : (s.inRepeat dir).rLow = s.rLow := by
  simp only [State.inRepeat, State.inUnit, State.stepHl, ↓noMreq_rLow, ↓afterPortRead_rLow, ↓memWrite_rLow, ↓setR8_rLow, ↓setF_rLow, ↓setHl_rLow, ↓repeatIf_rLow]
@[simp] theorem inRepeat_rB7 : (s.inRepeat dir).rB7 = s.rB7 := by
  simp only [State.inRepeat, State.inUnit, State.stepHl, ↓noMreq_rB7, ↓afterPortRead_rB7, ↓memWrite_rB7, ↓setR8_rB7, ↓setF_rB7, ↓setHl_rB7, ↓repeatIf_rB7]
@[simp] theorem inRepeat_iff1 : (s.inRepeat dir).iff1 = s.iff1 := by
  simp only [State.inRepeat, State.inUnit, State.stepHl, ↓noMreq_iff1, ↓afterPortRead_iff1, ↓memWrite_iff1, ↓setR8_iff1, ↓setF_iff1, ↓setHl_iff1, ↓repeatIf_iff1]
@[simp] theorem inRepeat_iff2 : (s.inRepeat dir).iff2 = s.iff2 := by
  simp only [State.inRepeat, State.inUnit, State.stepHl, ↓noMreq_iff2, ↓afterPortRead_iff2, ↓memWrite_iff2, ↓setR8_iff2, ↓setF_iff2, ↓setHl_iff2, ↓repeatIf_iff2]
@[simp] theorem inRepeat_im : (s.inRepeat dir).im = s.im := by
  simp only [State.inRepeat, State.inUnit, State.stepHl, ↓noMreq_im, ↓afterPortRead_im, ↓memWrite_im, ↓setR8_im, ↓setF_im, ↓setHl_im, ↓repeatIf_im]
@[simp] theorem inRepeat_halted : (s.inRepeat dir).halted = s.halted := by
  simp only [State.inRepeat, State.inUnit, State.stepHl, ↓noMreq_halted, ↓afterPortRead_halted, ↓memWrite_halted, ↓setR8_halted, ↓setF_halted, ↓setHl_halted, ↓repeatIf_halted]
@[simp] theorem inRepeat_eiDelay : (s.inRepeat dir).eiDelay = s.eiDelay := by
  simp only [State.inRepeat, State.inUnit, State.stepHl, ↓noMreq_eiDelay, ↓afterPortRead_eiDelay, ↓memWrite_eiDelay, ↓setR8_eiDelay, ↓setF_eiDelay, ↓setHl_eiDelay, ↓repeatIf_eiDelay]
@[simp] theorem inRepeat_faulted : (s.inRepeat dir).faulted = s.faulted := by
  simp only [State.inRepeat, State.inUnit, State.stepHl, ↓noMreq_faulted, ↓afterPortRead_faulted, ↓memWrite_faulted, ↓setR8_faulted, ↓setF_faulted, ↓setHl_faulted, ↓repeatIf_faulted]
@[simp] theorem inRepeat_resetDone : (s.inRepeat dir).resetDone = s.resetDone := by
  simp only [State.inRepeat, State.inUnit, State.stepHl, ↓noMreq_resetDone, ↓afterPortRead_resetDone, ↓memWrite_resetDone, ↓setR8_resetDone, ↓setF_resetDone, ↓setHl_resetDone, ↓repeatIf_resetDone]
@[simp] theorem inRepeat_platform : (s.inRepeat dir).platform = s.platform := by
  simp only [State.inRepeat, State.inUnit, State.stepHl, ↓noMreq_platform, ↓afterPortRead_platform, ↓memWrite_platform, ↓setR8_platform, ↓setF_platform, ↓setHl_platform, ↓repeatIf_platform]
@[simp] theorem inRepeat_mem : (s.inRepeat dir).mem = (s.storeByte s.hl ((s.noMreq s.ir 1).portByte s.bc)).mem := by
  simp only [State.inRepeat, State.inUnit, State.stepHl, ↓memWrite_mem, ↓setR8_mem, ↓setF_mem, ↓setHl_mem, ↓repeatIf_mem]
  exact storeByte_mem_congr (by simp) (by simp) _ _
@[simp] theorem kindAt_inRepeat (b : Word) : (s.inRepeat dir).kindAt b = s.kindAt b := kindAt_congr (by simp) b

end

/-! ### OUTI and OUTD -/

section
variable (s : State) (dir : Dir)

@[simp] theorem outStep_shadow : (s.outStep dir).shadow = s.shadow := by
  simp only [State.outStep, State.stepHl, ↓noMreq_shadow, ↓afterRead_shadow, ↓setR8_shadow, ↓portWrite_shadow, ↓setHl_shadow, ↓setF_shadow]
@[simp] theorem outStep_ix : (s.outStep dir).ix = s.ix := by
  simp only [State.outStep, State.stepHl, ↓noMreq_ix, ↓afterRead_ix, ↓setR8_ix, ↓portWrite_ix, ↓setHl_ix, ↓setF_ix]
@[simp] theorem outStep_iy : (s.outStep dir).iy = s.iy := by
  simp only [State.outStep, State.stepHl, ↓noMreq_iy, ↓afterRead_iy, ↓setR8_iy, ↓portWrite_iy, ↓setHl_iy, ↓setF_iy]
@[simp] theorem outStep_sp : (s.outStep dir).sp = s.sp := by
  simp only [State.outStep, State.stepHl, ↓noMreq_sp, ↓afterRead_sp, ↓setR8_sp, ↓portWrite_sp, ↓setHl_sp, ↓setF_sp]
@[simp] theorem outStep_scr : (s.outStep dir).scr = s.scr := by
  simp only [State.outStep, State.stepHl, ↓noMreq_scr, ↓afterRead_scr, ↓setR8_scr, ↓portWrite_scr, ↓setHl_scr, ↓setF_scr]
@[simp] theorem outStep_i : (s.outStep dir).i = s.i := by
  simp only [State.outStep, State.stepHl, ↓noMreq_i, ↓afterRead_i, ↓setR8_i, ↓portWrite_i, ↓setHl_i, ↓setF_i]
@[simp] theorem outStep_rLow : (s.outStep dir).rLow = s.rLow := by
  simp only [State.outStep, State.stepHl, ↓noMreq_rLow, ↓afterRead_rLow, ↓setR8_rLow, ↓portWrite_rLow, ↓setHl_rLow, ↓setF_rLow]
@[simp] theorem outStep_rB7 : (s.outStep dir).rB7 = s.rB7 := by
  simp only [State.outStep, State.stepHl, ↓noMreq_rB7, ↓afterRead_rB7, ↓setR8_rB7, ↓portWrite_rB7, ↓setHl_rB7, ↓setF_rB7]
@[simp] theorem outStep_iff1 : (s.outStep dir).iff1 = s.iff1 := by
  simp only [State.outStep, State.stepHl, ↓noMreq_iff1, ↓afterRead_iff1, ↓setR8_iff1, ↓portWrite_iff1, ↓setHl_iff1, ↓setF_iff1]
@[simp] theorem outStep_iff2 : (s.outStep dir).iff2 = s.iff2 := by
  simp only [State.outStep, State.stepHl, ↓noMreq_iff2, ↓afterRead_iff2, ↓setR8_iff2, ↓portWrite_iff2, ↓setHl_iff2, ↓setF_iff2]
@[simp] theorem outStep_im : (s.outStep dir).im = s.im := by
  simp only [State.outStep, State.stepHl, ↓noMreq_im, ↓afterRead_im, ↓setR8_im, ↓portWrite_im, ↓setHl_im, ↓setF_im]
@[simp] theorem outStep_halted : (s.outStep dir).halted = s.halted := by
  simp only [State.outStep, State.stepHl, ↓noMreq_halted, ↓afterRead_halted, ↓setR8_halted, ↓portWrite_halted, ↓setHl_halted, ↓setF_halted]
@[simp] theorem outStep_eiDelay : (s.outStep dir).eiDelay = s.eiDelay := by
  simp only [State.outStep, State.stepHl, ↓noMreq_eiDelay, ↓afterRead_eiDelay, ↓setR8_eiDelay, ↓portWrite_eiDelay, ↓setHl_eiDelay, ↓setF_eiDelay]
@[simp] theorem outStep_faulted : (s.outStep dir).faulted = s.faulted := by
  simp only [State.outStep, State.stepHl, ↓noMreq_faulted, ↓afterRead_faulted, ↓setR8_faulted, ↓portWrite_faulted, ↓setHl_faulted, ↓setF_faulted]
@[simp] theorem outStep_resetDone : (s.outStep dir).resetDone = s.resetDone := by
  simp only [State.outStep, State.stepHl, ↓noMreq_resetDone, ↓afterRead_resetDone, ↓setR8_resetDone, ↓portWrite_resetDone, ↓setHl_resetDone, ↓setF_resetDone]
@[simp] theorem outStep_platform : (s.outStep dir).platform = s.platform := by
  simp only [State.outStep, State.stepHl, ↓noMreq_platform, ↓afterRead_platform, ↓setR8_platform, ↓portWrite_platform, ↓setHl_platform, ↓setF_platform]
@[simp] theorem outStep_pc : (s.outStep dir).pc = s.pc := by
  simp only [State.outStep, State.stepHl, ↓noMreq_pc, ↓afterRead_pc, ↓setR8_pc, ↓portWrite_pc, ↓setHl_pc, ↓setF_pc]
@[simp] theorem outStep_mem : (s.outStep dir).mem = s.mem := by
  simp only [State.outStep, State.stepHl, ↓noMreq_mem, ↓afterRead_mem, ↓setR8_mem, ↓portWrite_mem, ↓setHl_mem, ↓setF_mem]
@[simp] theorem kindAt_outStep (b : Word) : (s.outStep dir).kindAt b = s.kindAt b := kindAt_congr (by simp) b

end

/-! ### OTIR and OTDR -/

section
variable (s : State) (dir : Dir)

@[simp] theorem outRepeat_shadow : (s.outRepeat dir).shadow = s.shadow := by
  simp only [State.outRepeat, State.outStep, State.stepHl, ↓noMreq_shadow, ↓afterRead_shadow, ↓setR8_shadow, ↓portWrite_shadow, ↓setHl_shadow, ↓setF_shadow, ↓repeatIf_shadow]
@[simp] theorem outRepeat_ix : (s.outRepeat dir).ix = s.ix := by
  simp only [State.outRepeat, State.outStep, State.stepHl, ↓noMreq_ix, ↓afterRead_ix, ↓setR8_ix, ↓portWrite_ix, ↓setHl_ix, ↓setF_ix, ↓repeatIf_ix]
@[simp] theorem outRepeat_iy : (s.outRepeat dir).iy = s.iy := by
  simp only [State.outRepeat, State.outStep, State.stepHl, ↓noMreq_iy, ↓afterRead_iy, ↓setR8_iy, ↓portWrite_iy, ↓setHl_iy, ↓setF_iy, ↓repeatIf_iy]
@[simp] theorem outRepeat_sp : (s.outRepeat dir).sp = s.sp := by
  simp only [State.outRepeat, State.outStep, State.stepHl, ↓noMreq_sp, ↓afterRead_sp, ↓setR8_sp, ↓portWrite_sp, ↓setHl_sp, ↓setF_sp, ↓repeatIf_sp]
@[simp] theorem outRepeat_scr : (s.outRepeat dir).scr = s.scr := by
  simp only [State.outRepeat, State.outStep, State.stepHl, ↓noMreq_scr, ↓afterRead_scr, ↓setR8_scr, ↓portWrite_scr, ↓setHl_scr, ↓setF_scr, ↓repeatIf_scr]
@[simp] theorem outRepeat_i : (s.outRepeat dir).i = s.i := by
  simp only [State.outRepeat, State.outStep, State.stepHl, ↓noMreq_i, ↓afterRead_i, ↓setR8_i, ↓portWrite_i, ↓setHl_i, ↓setF_i, ↓repeatIf_i]
@[simp] theorem outRepeat_rLow : (s.outRepeat dir).rLow = s.rLow := by
  simp only [State.outRepeat, State.outStep, State.stepHl, ↓noMreq_rLow, ↓afterRead_rLow, ↓setR8_rLow, ↓portWrite_rLow, ↓setHl_rLow, ↓setF_rLow, ↓repeatIf_rLow]
@[simp] theorem outRepeat_rB7 : (s.outRepeat dir).rB7 = s.rB7 := by
  simp only [State.outRepeat, State.outStep, State.stepHl, ↓noMreq_rB7, ↓afterRead_rB7, ↓setR8_rB7, ↓portWrite_rB7, ↓setHl_rB7, ↓setF_rB7, ↓repeatIf_rB7]
@[simp] theorem outRepeat_iff1 : (s.outRepeat dir).iff1 = s.iff1 := by
  simp only [State.outRepeat, State.outStep, State.stepHl, ↓noMreq_iff1, ↓afterRead_iff1, ↓setR8_iff1, ↓portWrite_iff1, ↓setHl_iff1, ↓setF_iff1, ↓repeatIf_iff1]
@[simp] theorem outRepeat_iff2 : (s.outRepeat dir).iff2 = s.iff2 := by
  simp only [State.outRepeat, State.outStep, State.stepHl, ↓noMreq_iff2, ↓afterRead_iff2, ↓setR8_iff2, ↓portWrite_iff2, ↓setHl_iff2, ↓setF_iff2, ↓repeatIf_iff2]
@[simp] theorem outRepeat_im : (s.outRepeat dir).im = s.im := by
  simp only [State.outRepeat, State.outStep, State.stepHl, ↓noMreq_im, ↓afterRead_im, ↓setR8_im, ↓portWrite_im, ↓setHl_im, ↓setF_im, ↓repeatIf_im]
@[simp] theorem outRepeat_halted : (s.outRepeat dir).halted = s.halted := by
  simp only [State.outRepeat, State.outStep, State.stepHl, ↓noMreq_halted, ↓afterRead_halted, ↓setR8_halted, ↓portWrite_halted, ↓setHl_halted, ↓setF_halted, ↓repeatIf_halted]
@[simp] theorem outRepeat_eiDelay : (s.outRepeat dir).eiDelay = s.eiDelay := by
  simp only [State.outRepeat, State.outStep, State.stepHl, ↓noMreq_eiDelay, ↓afterRead_eiDelay, ↓setR8_eiDelay, ↓portWrite_eiDelay, ↓setHl_eiDelay, ↓setF_eiDelay, ↓repeatIf_eiDelay]
@[simp] theorem outRepeat_faulted : (s.outRepeat dir).faulted = s.faulted := by
  simp only [State.outRepeat, State.outStep, State.stepHl, ↓noMreq_faulted, ↓afterRead_faulted, ↓setR8_faulted, ↓portWrite_faulted, ↓setHl_faulted, ↓setF_faulted, ↓repeatIf_faulted]
@[simp] theorem outRepeat_resetDone : (s.outRepeat dir).resetDone = s.resetDone := by
  simp only [State.outRepeat, State.outStep, State.stepHl, ↓noMreq_resetDone, ↓afterRead_resetDone, ↓setR8_resetDone, ↓portWrite_resetDone, ↓setHl_resetDone, ↓setF_resetDone, ↓repeatIf_resetDone]
@[simp] theorem outRepeat_platform : (s.outRepeat dir).platform = s.platform := by
  simp only [State.outRepeat, State.outStep, State.stepHl, ↓noMreq_platform, ↓afterRead_platform, ↓setR8_platform, ↓portWrite_platform, ↓setHl_platform, ↓setF_platform, ↓repeatIf_platform]
@[simp] theorem outRepeat_mem : (s.outRepeat dir).mem = s.mem := by
  simp only [State.outRepeat, State.outStep, State.stepHl, ↓noMreq_mem, ↓afterRead_mem, ↓setR8_mem, ↓portWrite_mem, ↓setHl_mem, ↓setF_mem, ↓repeatIf_mem]
@[simp] theorem kindAt_outRepeat (b : Word) : (s.outRepeat dir).kindAt b = s.kindAt b := kindAt_congr (by simp) b

end

/-- The return from an interrupt changes IFF1, SP, PC and T alone. -/
@[simp] theorem rawRead_returnFromInterrupt (s : State) {c : RawCell} (h1 : c ≠ .iff1) (hs : c ≠ .sp) (hp : c ≠ .pc)
    (ht : c ≠ .t) : s.returnFromInterrupt.rawRead c = s.rawRead c := by
  by_cases h2 : c = .iff2
  · subst h2
    simp [State.returnFromInterrupt, State.afterPop, State.afterReadWord, State.rawRead]
  · simp [State.returnFromInterrupt, *]

end Sys2Proof.Machine
end

