-- ==== Sys2Proof/Laws/Flags.lean ====
section
/-! SUPPORT. The bits each flag computation keeps (R30), and the masks of the flag frames as cases. -/

namespace Sys2Proof.Machine

theorem flagIf_bit (p : Bool) (m : Byte) (k : Nat) : (flagIf p m).getLsbD k = (p && m.getLsbD k) := by cases p <;> simp [flagIf]

theorem sz53_bit0 (v : Byte) : (sz53 v).getLsbD 0 = false := by revert v; decide

theorem parity_bit0 (v : Byte) : (parity v).getLsbD 0 = false := by revert v; decide

theorem hcSub_bit0 (i : Nat) : (hcSub i).getLsbD 0 = false := by
  match i with
  | 0 | 1 | 2 | 3 | 4 | 5 | 6 | 7 => rfl
  | n + 8 => simp [hcSub]

theorem hcAdd_bit (i : Nat) : (hcAdd i).getLsbD 2 = false ∧ (hcAdd i).getLsbD 6 = false ∧ (hcAdd i).getLsbD 7 = false := by
  match i with
  | 0 | 1 | 2 | 3 | 4 | 5 | 6 | 7 => decide
  | n + 8 => simp [hcAdd]

theorem inc8F_keep (f v : Byte) : (inc8F f v).getLsbD 0 = f.getLsbD 0 := by
  simp only [inc8F, BitVec.getLsbD_or, BitVec.getLsbD_and, flagIf_bit, sz53_bit0]; simp

theorem dec8F_keep (f v : Byte) : (dec8F f v).getLsbD 0 = f.getLsbD 0 := by
  simp only [dec8F, BitVec.getLsbD_or, BitVec.getLsbD_and, flagIf_bit, sz53_bit0]; simp

theorem bitF_keep (f v x : Byte) (b : BitVec 3) : (bitF f v x b).getLsbD 0 = f.getLsbD 0 := by
  simp only [bitF, BitVec.getLsbD_or, BitVec.getLsbD_and, flagIf_bit]; simp

theorem keepCSz53p_keep (f v : Byte) : (keepCSz53p f v).getLsbD 0 = f.getLsbD 0 := by
  simp only [keepCSz53p, sz53p, BitVec.getLsbD_or, BitVec.getLsbD_and, sz53_bit0, parity_bit0]; simp

theorem loadIrF_keep (f a : Byte) (i : Bool) : (loadIrF f a i).getLsbD 0 = f.getLsbD 0 := by
  simp only [loadIrF, BitVec.getLsbD_or, BitVec.getLsbD_and, flagIf_bit, sz53_bit0]; simp

theorem cpBlockF_keep (f a v : Byte) (bc : Word) : (cpBlockF f a v bc).getLsbD 0 = f.getLsbD 0 := by
  simp only [cpBlockF, BitVec.getLsbD_or, BitVec.getLsbD_and, flagIf_bit, hcSub_bit0]; simp

theorem ldBlockF_keep (f a v : Byte) (bc : Word) {k : Nat} (hk : k = 0 ∨ k = 6 ∨ k = 7) :
    (ldBlockF f a v bc).getLsbD k = f.getLsbD k := by
  rcases hk with rfl | rfl | rfl <;> simp only [ldBlockF, BitVec.getLsbD_or, BitVec.getLsbD_and, flagIf_bit] <;> simp

theorem cplF_keep (f a : Byte) {k : Nat} (hk : k = 0 ∨ k = 2 ∨ k = 6 ∨ k = 7) : (cplF f a).getLsbD k = f.getLsbD k := by
  rcases hk with rfl | rfl | rfl | rfl <;> simp [cplF]

theorem ccfF_keep (f a : Byte) {k : Nat} (hk : k = 2 ∨ k = 6 ∨ k = 7) : (ccfF f a).getLsbD k = f.getLsbD k := by
  rcases hk with rfl | rfl | rfl <;> simp only [ccfF] <;> split <;> simp

theorem scfF_keep (f a : Byte) {k : Nat} (hk : k = 2 ∨ k = 6 ∨ k = 7) : (scfF f a).getLsbD k = f.getLsbD k := by
  rcases hk with rfl | rfl | rfl <;> simp [scfF]

theorem add16F_keep (f : Byte) (p v : Word) {k : Nat} (hk : k = 2 ∨ k = 6 ∨ k = 7) : (add16F f p v).getLsbD k = f.getLsbD k := by
  rcases hk with rfl | rfl | rfl <;>
    simp only [add16F, BitVec.getLsbD_or, BitVec.getLsbD_and, flagIf_bit, hcAdd_bit] <;> simp

theorem accFlags_keep (op : Shift) (f v : Byte) {k : Nat} (hk : k = 2 ∨ k = 6 ∨ k = 7) :
    (op.accFlags f v).getLsbD k = f.getLsbD k := by
  rcases hk with rfl | rfl | rfl <;>
    simp only [Shift.accFlags, BitVec.getLsbD_or, BitVec.getLsbD_and, flagIf_bit] <;> simp

theorem sameFlags_allButC {s t : State} (h : t.f.getLsbD 0 = s.f.getLsbD 0) : SameFlagsBut 0xFE s t := by
  intro k hk hm
  match k with
  | 0 => exact h
  | 1 | 2 | 3 | 4 | 5 | 6 | 7 => exact absurd hm (by decide)

theorem kept_arith {k : Nat} (hk : k < 8) (hm : (flagC ||| flagN ||| flagH ||| flagX5 ||| flagX3).getLsbD k = false) :
    k = 2 ∨ k = 6 ∨ k = 7 := by
  revert hm; revert k; decide

theorem kept_cpl {k : Nat} (hk : k < 8) (hm : (flagH ||| flagN ||| flagX5 ||| flagX3).getLsbD k = false) :
    k = 0 ∨ k = 2 ∨ k = 6 ∨ k = 7 := by
  revert hm; revert k; decide

theorem kept_ld {k : Nat} (hk : k < 8) (hm : (flagH ||| flagN ||| flagPV ||| flagX5 ||| flagX3).getLsbD k = false) :
    k = 0 ∨ k = 6 ∨ k = 7 := by
  revert hm; revert k; decide

theorem inc8F_c (f v : Byte) : (inc8F f v)[0] = f[0] := inc8F_keep f v

theorem dec8F_c (f v : Byte) : (dec8F f v)[0] = f[0] := dec8F_keep f v

theorem bitF_c (f v x : Byte) (b : BitVec 3) : (bitF f v x b)[0] = f[0] := bitF_keep f v x b

theorem keepCSz53p_c (f v : Byte) : (keepCSz53p f v)[0] = f[0] := keepCSz53p_keep f v

theorem loadIrF_c (f a : Byte) (i : Bool) : (loadIrF f a i)[0] = f[0] := loadIrF_keep f a i

theorem cpBlockF_c (f a v : Byte) (bc : Word) : (cpBlockF f a v bc)[0] = f[0] := cpBlockF_keep f a v bc

theorem hcSub_bit2 (i : Nat) : (hcSub i).getLsbD 2 = false ∧ (hcSub i).getLsbD 6 = false := by
  match i with
  | 0 | 1 | 2 | 3 | 4 | 5 | 6 | 7 => decide
  | n + 8 => simp [hcSub]

theorem pvOnly (f : Byte) : (f &&& (flagPV ||| flagZ) == flagPV) = (f.getLsbD 2 && !f.getLsbD 6) := by revert f; decide

theorem cpBlock_again (f a v : Byte) (bc : Word) :
    (cpBlockF f a v bc &&& (flagPV ||| flagZ) == flagPV) = (bc != 0 && a != v) := by
  have h0 : (a - v == 0) = (a == v) := by
    rw [Bool.eq_iff_iff, beq_iff_eq, beq_iff_eq]
    exact ⟨fun h => by bv_omega, fun h => by bv_omega⟩
  rw [pvOnly]
  simp only [cpBlockF, BitVec.getLsbD_or, BitVec.getLsbD_and, flagIf_bit, hcSub_bit2, h0]
  simp [bne]

end Sys2Proof.Machine
end

