-- ==== Sys2Proof/Laws/Pairs.lean ====
section
/-! SUPPORT. What a register, a pair or an operand reads as after a write of one of them (R23, R24, R75 to R77). -/

namespace Sys2Proof.Machine

section
variable (s : State) (v : Word) (w : Byte)

@[simp] theorem setF_f : (s.setF w).f = w := rfl
@[simp] theorem setR8_f (r : R8) : (s.setR8 r w).f = s.f := by simp [State.f]
@[simp] theorem setBc_f : (s.setBc v).f = s.f := by simp [State.f, State.setBc]
@[simp] theorem setDe_f : (s.setDe v).f = s.f := by simp [State.f, State.setDe]
@[simp] theorem setHl_f : (s.setHl v).f = s.f := by simp [State.f, State.setHl]
@[simp] theorem setAf_f : (s.setAf v).f = loByte v := by simp [State.f, State.setAf]

@[simp] theorem setBc_bc : (s.setBc v).bc = v := by simp [State.bc, State.setBc, Bank.set]
@[simp] theorem setBc_de : (s.setBc v).de = s.de := by simp [State.de, State.setBc, Bank.set]
@[simp] theorem setBc_hl : (s.setBc v).hl = s.hl := by simp [State.hl, State.setBc, Bank.set]
@[simp] theorem setDe_bc : (s.setDe v).bc = s.bc := by simp [State.bc, State.setDe, Bank.set]
@[simp] theorem setDe_de : (s.setDe v).de = v := by simp [State.de, State.setDe, Bank.set]
@[simp] theorem setDe_hl : (s.setDe v).hl = s.hl := by simp [State.hl, State.setDe, Bank.set]
@[simp] theorem setHl_bc : (s.setHl v).bc = s.bc := by simp [State.bc, State.setHl, Bank.set]
@[simp] theorem setHl_de : (s.setHl v).de = s.de := by simp [State.de, State.setHl, Bank.set]
@[simp] theorem setHl_hl : (s.setHl v).hl = v := by simp [State.hl, State.setHl, Bank.set]
@[simp] theorem setF_bc : (s.setF w).bc = s.bc := rfl
@[simp] theorem setF_de : (s.setF w).de = s.de := rfl
@[simp] theorem setF_hl : (s.setF w).hl = s.hl := rfl
@[simp] theorem setB_hl : (s.setR8 .b w).hl = s.hl := rfl
@[simp] theorem setA_hl : (s.setR8 .a w).hl = s.hl := rfl
@[simp] theorem setAf_af : (s.setAf v).af = v := by simp [State.af, State.setAf, Bank.set]

@[simp] theorem setR8_r8 (r : R8) : (s.setR8 r w).r8 r = w := by simp [State.r8]
theorem setR8_r8_ne {r q : R8} (h : q ≠ r) : (s.setR8 r w).r8 q = s.r8 q := by simp [State.r8, get_set_ne _ _ h]
@[simp] theorem setF_r8 (r : R8) : (s.setF w).r8 r = s.r8 r := by cases r <;> rfl
@[simp] theorem setXy_xy (xy : XY) : (s.setXy xy v).xy xy = v := by cases xy <;> simp [State.xy, State.setXy]
@[simp] theorem setHalf_half (xy : XY) (h : Half) : (s.setHalf xy h w).half xy h = w := by cases xy <;> cases h <;> rfl
@[simp] theorem setRp_rp (p : RP) : (s.setRp p v).rp p = v := by cases p <;> simp [State.rp, State.setRp]
@[simp] theorem setRp2_rp2 (p : RP2) : (s.setRp2 p v).rp2 p = v := by cases p <;> simp [State.rp2, State.setRp2]

end

/-- A decrement of a word reaches 0 from 1 alone. -/
theorem pred_eq_zero (w : Word) : w - 1 = 0 ↔ w = 1 := ⟨fun h => by bv_omega, fun h => by bv_omega⟩

/-- A decrement of a byte reaches 0 from 1 alone. -/
theorem pred_eq_zero8 (w : Byte) : w - 1 = 0 ↔ w = 1 := ⟨fun h => by bv_omega, fun h => by bv_omega⟩

end Sys2Proof.Machine
end

