-- ==== Sys2Proof/Laws/Frame.lean ====
section
/-! SUPPORT. Every instruction completes, and what each leaves unchanged: the frame of Safety.lean for all of `exec`, with the
canonical form of memory kept. -/

namespace Sys2Proof.Machine

set_option linter.unusedSimpArgs false

theorem sub_one_sub_one (v : Word) : v - 1#16 - 1#16 = v - 2#16 := BitVec.sub_sub v 1 1

/-- Every meaning answers a next state. -/
theorem exec_next (i : Instr) (s : State) : ∃ t, exec i s = .next t := by
  cases i <;> exact ⟨_, rfl⟩

set_option maxHeartbeats 4000000 in
/-- The cells no rule of an instruction writes. -/
theorem exec_cells (i : Instr) (s t : State) (h : exec i s = .next t) : SameCellsBut (cellsWritten i) s t := by
  intro c hc hp ht
  cases i <;> simp only [exec] at h <;>
    simp only [execNop, execExAfAf, execDjnz, execJr, execJrCc, execLdDdNn, execAddHlSs, execLdMemRrA, execLdAMemRr, execLdMemNnHl,
      execLdHlMemNn, execLdMemNnA, execLdAMemNn, execIncSs, execDecSs, execIncR, execIncMemHl, execDecR, execDecMemHl,
      execLdRN, execLdMemHlN, execRlca, execRrca, execRla, execRra, execDaa, execCpl, execScf, execCcf, execLdRR,
      execLdRMemHl, execLdMemHlR, execHalt, execAddAR, execAddAMemHl, execAddAN, execAdcAR, execAdcAMemHl, execAdcAN,
      execSubR, execSubMemHl, execSubN, execSbcAR, execSbcAMemHl, execSbcAN, execAndR, execAndMemHl, execAndN, execXorR,
      execXorMemHl, execXorN, execOrR, execOrMemHl, execOrN, execCpR, execCpMemHl, execCpN, execRetCc, execPopQq, execRet,
      execExx, execJpHl, execLdSpHl, execJpCcNn, execJpNn, execOutNA, execInAN, execExSpHl, execExDeHl, execDi, execEi,
      execCallCcNn, execPushQq, execCallNn, execRst, execRlcR, execRlcMemHl, execRrcR, execRrcMemHl, execRlR, execRlMemHl,
      execRrR, execRrMemHl, execSlaR, execSlaMemHl, execSraR, execSraMemHl, execSllR, execSllMemHl, execSrlR,
      execSrlMemHl, execBitBR, execBitBMemHl, execResBR, execResBMemHl, execSetBR, execSetBMemHl, execNopEd, execInRC,
      execInFC, execOutCR, execOutC0, execSbcHlSs, execAdcHlSs, execLdMemNnDd, execLdDdMemNn, execNeg, execRetn, execReti,
      execIm0, execIm1, execIm2, execLdIA, execLdRA, execLdAI, execLdAR, execRrd, execRld, execLdi, execCpi, execIni,
      execOuti, execLdd, execCpd, execInd, execOutd, execLdir, execCpir, execInir, execOtir, execLddr, execCpdr, execIndr,
      execOtdr, execXyPrefix, execAddXyPp, execLdXyNn, execLdMemNnXy, execLdXyMemNn, execIncXy, execDecXy, execIncXyh,
      execDecXyh, execLdXyhN, execIncXyd, execDecXyd, execLdXydN, execLdRXyd, execLdXydR, execLdHlXyd, execLdXydHl,
      execLdAXyd, execLdXydA, execLdRXyh, execLdXyhR, execLdXyhA, execAddAXyh, execAddAXyd, execAdcAXyh, execAdcAXyd,
      execSubXyh, execSubXyd, execSbcAXyh, execSbcAXyd, execAndXyh, execAndXyd, execXorXyh, execXorXyd, execOrXyh,
      execOrXyd, execCpXyh, execCpXyd, execPopXy, execExSpXy, execPushXy, execJpXy, execLdSpXy, execRlcXyd, execLdRRlcXyd,
      execRrcXyd, execLdRRrcXyd, execRlXyd, execLdRRlXyd, execRrXyd, execLdRRrXyd, execSlaXyd, execLdRSlaXyd, execSraXyd,
      execLdRSraXyd, execSllXyd, execLdRSllXyd, execSrlXyd, execLdRSrlXyd, execBitBXyd, execResBXyd, execLdRResBXyd,
      execSetBXyd, execLdRSetBXyd, Host.Outcome.next.injEq] at h <;>
    subst h <;> simp only [cellsWritten, List.mem_cons, List.not_mem_nil, or_false, not_or] at hc <;>
    first
    | (simp [State.aluWrite, State.addA, State.adcA, State.subA, State.sbcA, State.andA, State.xorA, State.orA, State.cpA,
        State.incMem, State.decMem, State.shiftReg, State.shiftMem, State.changeMem, State.shiftIndexed,
        State.shiftIndexedCopy, State.changeIndexed, State.changeIndexedCopy, State.bitMem, State.bitIndexed,
        State.nibbleRotate, State.rotateA, State.loadXyd, State.storeXyd, State.swapTop, State.pushPair, State.loadSp,
        State.jumpRel, State.call, State.popPc, State.ldUnit, State.ldStep, State.ldRepeat, State.cpUnit, State.cpStep,
        State.cpRepeat, State.inUnit, State.inStep, State.inRepeat, State.outStep, State.outRepeat, State.stepHl,
        State.stepDe, State.loadAFromIr, *]; done)
    | (split <;> simp [State.aluWrite, State.addA, State.adcA, State.subA, State.sbcA, State.andA, State.xorA, State.orA, State.cpA,
        State.incMem, State.decMem, State.shiftReg, State.shiftMem, State.changeMem, State.shiftIndexed,
        State.shiftIndexedCopy, State.changeIndexed, State.changeIndexedCopy, State.bitMem, State.bitIndexed,
        State.nibbleRotate, State.rotateA, State.loadXyd, State.storeXyd, State.swapTop, State.pushPair, State.loadSp,
        State.jumpRel, State.call, State.popPc, State.ldUnit, State.ldStep, State.ldRepeat, State.cpUnit, State.cpStep,
        State.cpRepeat, State.inUnit, State.inStep, State.inRepeat, State.outStep, State.outRepeat, State.stepHl,
        State.stepDe, State.loadAFromIr, *])
    | (cases c with
      | reg r => cases r <;> simp_all [State.rawRead, Bank.get]
      | shadowReg r => cases r <;> simp_all [State.rawRead, Bank.get]
      | half xy h => cases xy <;> cases h <;> rfl
      | _ => simp_all [State.rawRead, State.rByte])

set_option maxHeartbeats 4000000 in
/-- SCR, the port log, EIdelay, the latches the host sees and the platform. -/
theorem exec_latches (i : Instr) (s t : State) (h : exec i s = .next t) :
    (setsScr i = false → t.scr = s.scr) ∧ (usesPorts i = false → t.events = s.events) ∧ (i ≠ .ei → t.eiDelay = s.eiDelay)
      ∧ t.faulted = s.faulted ∧ t.resetDone = s.resetDone ∧ t.platform = s.platform := by
  cases i <;> simp only [exec] at h <;>
    simp only [execNop, execExAfAf, execDjnz, execJr, execJrCc, execLdDdNn, execAddHlSs, execLdMemRrA, execLdAMemRr, execLdMemNnHl,
      execLdHlMemNn, execLdMemNnA, execLdAMemNn, execIncSs, execDecSs, execIncR, execIncMemHl, execDecR, execDecMemHl,
      execLdRN, execLdMemHlN, execRlca, execRrca, execRla, execRra, execDaa, execCpl, execScf, execCcf, execLdRR,
      execLdRMemHl, execLdMemHlR, execHalt, execAddAR, execAddAMemHl, execAddAN, execAdcAR, execAdcAMemHl, execAdcAN,
      execSubR, execSubMemHl, execSubN, execSbcAR, execSbcAMemHl, execSbcAN, execAndR, execAndMemHl, execAndN, execXorR,
      execXorMemHl, execXorN, execOrR, execOrMemHl, execOrN, execCpR, execCpMemHl, execCpN, execRetCc, execPopQq, execRet,
      execExx, execJpHl, execLdSpHl, execJpCcNn, execJpNn, execOutNA, execInAN, execExSpHl, execExDeHl, execDi, execEi,
      execCallCcNn, execPushQq, execCallNn, execRst, execRlcR, execRlcMemHl, execRrcR, execRrcMemHl, execRlR, execRlMemHl,
      execRrR, execRrMemHl, execSlaR, execSlaMemHl, execSraR, execSraMemHl, execSllR, execSllMemHl, execSrlR,
      execSrlMemHl, execBitBR, execBitBMemHl, execResBR, execResBMemHl, execSetBR, execSetBMemHl, execNopEd, execInRC,
      execInFC, execOutCR, execOutC0, execSbcHlSs, execAdcHlSs, execLdMemNnDd, execLdDdMemNn, execNeg, execRetn, execReti,
      execIm0, execIm1, execIm2, execLdIA, execLdRA, execLdAI, execLdAR, execRrd, execRld, execLdi, execCpi, execIni,
      execOuti, execLdd, execCpd, execInd, execOutd, execLdir, execCpir, execInir, execOtir, execLddr, execCpdr, execIndr,
      execOtdr, execXyPrefix, execAddXyPp, execLdXyNn, execLdMemNnXy, execLdXyMemNn, execIncXy, execDecXy, execIncXyh,
      execDecXyh, execLdXyhN, execIncXyd, execDecXyd, execLdXydN, execLdRXyd, execLdXydR, execLdHlXyd, execLdXydHl,
      execLdAXyd, execLdXydA, execLdRXyh, execLdXyhR, execLdXyhA, execAddAXyh, execAddAXyd, execAdcAXyh, execAdcAXyd,
      execSubXyh, execSubXyd, execSbcAXyh, execSbcAXyd, execAndXyh, execAndXyd, execXorXyh, execXorXyd, execOrXyh,
      execOrXyd, execCpXyh, execCpXyd, execPopXy, execExSpXy, execPushXy, execJpXy, execLdSpXy, execRlcXyd, execLdRRlcXyd,
      execRrcXyd, execLdRRrcXyd, execRlXyd, execLdRRlXyd, execRrXyd, execLdRRrXyd, execSlaXyd, execLdRSlaXyd, execSraXyd,
      execLdRSraXyd, execSllXyd, execLdRSllXyd, execSrlXyd, execLdRSrlXyd, execBitBXyd, execResBXyd, execLdRResBXyd,
      execSetBXyd, execLdRSetBXyd, Host.Outcome.next.injEq] at h <;>
    subst h <;> simp only [setsScr, usesPorts, reduceCtorEq] <;>
    first
    | (simp [State.aluWrite, State.addA, State.adcA, State.subA, State.sbcA, State.andA, State.xorA, State.orA, State.cpA,
        State.incMem, State.decMem, State.shiftReg, State.shiftMem, State.changeMem, State.shiftIndexed,
        State.shiftIndexedCopy, State.changeIndexed, State.changeIndexedCopy, State.bitMem, State.bitIndexed,
        State.nibbleRotate, State.rotateA, State.loadXyd, State.storeXyd, State.swapTop, State.pushPair, State.loadSp,
        State.jumpRel, State.call, State.popPc, State.loadAFromIr, State.returnFromInterrupt]; done)
    | (split <;> simp [State.aluWrite, State.addA, State.adcA, State.subA, State.sbcA, State.andA, State.xorA, State.orA, State.cpA,
        State.incMem, State.decMem, State.shiftReg, State.shiftMem, State.changeMem, State.shiftIndexed,
        State.shiftIndexedCopy, State.changeIndexed, State.changeIndexedCopy, State.bitMem, State.bitIndexed,
        State.nibbleRotate, State.rotateA, State.loadXyd, State.storeXyd, State.swapTop, State.pushPair, State.loadSp,
        State.jumpRel, State.call, State.popPc, State.loadAFromIr, State.returnFromInterrupt])

set_option maxHeartbeats 4000000 in
/-- The bytes of memory an instruction does not store to. -/
theorem exec_memory (i : Instr) (s t : State) (h : exec i s = .next t) : SameMemoryBut (storedAddrs i s) s t := by
  intro a ha
  cases i <;> simp only [exec] at h <;>
    simp only [execNop, execExAfAf, execDjnz, execJr, execJrCc, execLdDdNn, execAddHlSs, execLdMemRrA, execLdAMemRr, execLdMemNnHl,
      execLdHlMemNn, execLdMemNnA, execLdAMemNn, execIncSs, execDecSs, execIncR, execIncMemHl, execDecR, execDecMemHl,
      execLdRN, execLdMemHlN, execRlca, execRrca, execRla, execRra, execDaa, execCpl, execScf, execCcf, execLdRR,
      execLdRMemHl, execLdMemHlR, execHalt, execAddAR, execAddAMemHl, execAddAN, execAdcAR, execAdcAMemHl, execAdcAN,
      execSubR, execSubMemHl, execSubN, execSbcAR, execSbcAMemHl, execSbcAN, execAndR, execAndMemHl, execAndN, execXorR,
      execXorMemHl, execXorN, execOrR, execOrMemHl, execOrN, execCpR, execCpMemHl, execCpN, execRetCc, execPopQq, execRet,
      execExx, execJpHl, execLdSpHl, execJpCcNn, execJpNn, execOutNA, execInAN, execExSpHl, execExDeHl, execDi, execEi,
      execCallCcNn, execPushQq, execCallNn, execRst, execRlcR, execRlcMemHl, execRrcR, execRrcMemHl, execRlR, execRlMemHl,
      execRrR, execRrMemHl, execSlaR, execSlaMemHl, execSraR, execSraMemHl, execSllR, execSllMemHl, execSrlR,
      execSrlMemHl, execBitBR, execBitBMemHl, execResBR, execResBMemHl, execSetBR, execSetBMemHl, execNopEd, execInRC,
      execInFC, execOutCR, execOutC0, execSbcHlSs, execAdcHlSs, execLdMemNnDd, execLdDdMemNn, execNeg, execRetn, execReti,
      execIm0, execIm1, execIm2, execLdIA, execLdRA, execLdAI, execLdAR, execRrd, execRld, execLdi, execCpi, execIni,
      execOuti, execLdd, execCpd, execInd, execOutd, execLdir, execCpir, execInir, execOtir, execLddr, execCpdr, execIndr,
      execOtdr, execXyPrefix, execAddXyPp, execLdXyNn, execLdMemNnXy, execLdXyMemNn, execIncXy, execDecXy, execIncXyh,
      execDecXyh, execLdXyhN, execIncXyd, execDecXyd, execLdXydN, execLdRXyd, execLdXydR, execLdHlXyd, execLdXydHl,
      execLdAXyd, execLdXydA, execLdRXyh, execLdXyhR, execLdXyhA, execAddAXyh, execAddAXyd, execAdcAXyh, execAdcAXyd,
      execSubXyh, execSubXyd, execSbcAXyh, execSbcAXyd, execAndXyh, execAndXyd, execXorXyh, execXorXyd, execOrXyh,
      execOrXyd, execCpXyh, execCpXyd, execPopXy, execExSpXy, execPushXy, execJpXy, execLdSpXy, execRlcXyd, execLdRRlcXyd,
      execRrcXyd, execLdRRrcXyd, execRlXyd, execLdRRlXyd, execRrXyd, execLdRRrXyd, execSlaXyd, execLdRSlaXyd, execSraXyd,
      execLdRSraXyd, execSllXyd, execLdRSllXyd, execSrlXyd, execLdRSrlXyd, execBitBXyd, execResBXyd, execLdRResBXyd,
      execSetBXyd, execLdRSetBXyd, Host.Outcome.next.injEq] at h <;>
    subst h <;> simp only [storedAddrs] at ha <;> simp only [State.peek] <;> (try split at ha) <;>
    (try simp [State.hl, State.de, State.eaXy, State.xy, State.index, State.bc] at ha) <;>
    first
    | (simp [State.aluWrite, State.addA, State.adcA, State.subA, State.sbcA, State.andA, State.xorA, State.orA, State.cpA,
        State.incMem, State.decMem, State.shiftReg, State.shiftMem, State.changeMem, State.shiftIndexed,
        State.shiftIndexedCopy, State.changeIndexed, State.changeIndexedCopy, State.bitMem, State.bitIndexed,
        State.nibbleRotate, State.rotateA, State.loadXyd, State.storeXyd, State.swapTop, State.pushPair, State.loadSp,
        State.jumpRel, State.call, State.popPc, State.loadAFromIr, State.returnFromInterrupt, State.push,
        State.modifyByte, State.writeWord, State.afterPortRead, sub_one_sub_one, read_storeByte_ne, State.hl, State.de,
        State.eaXy, State.xy, State.index, State.bc, ha]; done)
    | (split <;> simp [State.aluWrite, State.addA, State.adcA, State.subA, State.sbcA, State.andA, State.xorA, State.orA, State.cpA,
        State.incMem, State.decMem, State.shiftReg, State.shiftMem, State.changeMem, State.shiftIndexed,
        State.shiftIndexedCopy, State.changeIndexed, State.changeIndexedCopy, State.bitMem, State.bitIndexed,
        State.nibbleRotate, State.rotateA, State.loadXyd, State.storeXyd, State.swapTop, State.pushPair, State.loadSp,
        State.jumpRel, State.call, State.popPc, State.loadAFromIr, State.returnFromInterrupt, State.push,
        State.modifyByte, State.writeWord, State.afterPortRead, sub_one_sub_one, read_storeByte_ne, State.hl, State.de,
        State.eaXy, State.xy, State.index, State.bc, ha]; done)
    | (split <;> simp_all [State.aluWrite, State.addA, State.adcA, State.subA, State.sbcA, State.andA, State.xorA, State.orA, State.cpA,
        State.incMem, State.decMem, State.shiftReg, State.shiftMem, State.changeMem, State.shiftIndexed,
        State.shiftIndexedCopy, State.changeIndexed, State.changeIndexedCopy, State.bitMem, State.bitIndexed,
        State.nibbleRotate, State.rotateA, State.loadXyd, State.storeXyd, State.swapTop, State.pushPair, State.loadSp,
        State.jumpRel, State.call, State.popPc, State.loadAFromIr, State.returnFromInterrupt, State.push,
        State.modifyByte, State.writeWord, State.afterPortRead, sub_one_sub_one, read_storeByte_ne, State.hl, State.de,
        State.eaXy, State.xy, State.index, State.bc, ha])

set_option maxHeartbeats 4000000 in
/-- The canonical form of memory is kept. -/
theorem exec_wf (i : Instr) (s t : State) (h : exec i s = .next t) (hm : s.mem.wf = true) : t.mem.wf = true := by
  cases i <;> simp only [exec] at h <;>
    simp only [execNop, execExAfAf, execDjnz, execJr, execJrCc, execLdDdNn, execAddHlSs, execLdMemRrA, execLdAMemRr, execLdMemNnHl,
      execLdHlMemNn, execLdMemNnA, execLdAMemNn, execIncSs, execDecSs, execIncR, execIncMemHl, execDecR, execDecMemHl,
      execLdRN, execLdMemHlN, execRlca, execRrca, execRla, execRra, execDaa, execCpl, execScf, execCcf, execLdRR,
      execLdRMemHl, execLdMemHlR, execHalt, execAddAR, execAddAMemHl, execAddAN, execAdcAR, execAdcAMemHl, execAdcAN,
      execSubR, execSubMemHl, execSubN, execSbcAR, execSbcAMemHl, execSbcAN, execAndR, execAndMemHl, execAndN, execXorR,
      execXorMemHl, execXorN, execOrR, execOrMemHl, execOrN, execCpR, execCpMemHl, execCpN, execRetCc, execPopQq, execRet,
      execExx, execJpHl, execLdSpHl, execJpCcNn, execJpNn, execOutNA, execInAN, execExSpHl, execExDeHl, execDi, execEi,
      execCallCcNn, execPushQq, execCallNn, execRst, execRlcR, execRlcMemHl, execRrcR, execRrcMemHl, execRlR, execRlMemHl,
      execRrR, execRrMemHl, execSlaR, execSlaMemHl, execSraR, execSraMemHl, execSllR, execSllMemHl, execSrlR,
      execSrlMemHl, execBitBR, execBitBMemHl, execResBR, execResBMemHl, execSetBR, execSetBMemHl, execNopEd, execInRC,
      execInFC, execOutCR, execOutC0, execSbcHlSs, execAdcHlSs, execLdMemNnDd, execLdDdMemNn, execNeg, execRetn, execReti,
      execIm0, execIm1, execIm2, execLdIA, execLdRA, execLdAI, execLdAR, execRrd, execRld, execLdi, execCpi, execIni,
      execOuti, execLdd, execCpd, execInd, execOutd, execLdir, execCpir, execInir, execOtir, execLddr, execCpdr, execIndr,
      execOtdr, execXyPrefix, execAddXyPp, execLdXyNn, execLdMemNnXy, execLdXyMemNn, execIncXy, execDecXy, execIncXyh,
      execDecXyh, execLdXyhN, execIncXyd, execDecXyd, execLdXydN, execLdRXyd, execLdXydR, execLdHlXyd, execLdXydHl,
      execLdAXyd, execLdXydA, execLdRXyh, execLdXyhR, execLdXyhA, execAddAXyh, execAddAXyd, execAdcAXyh, execAdcAXyd,
      execSubXyh, execSubXyd, execSbcAXyh, execSbcAXyd, execAndXyh, execAndXyd, execXorXyh, execXorXyd, execOrXyh,
      execOrXyd, execCpXyh, execCpXyd, execPopXy, execExSpXy, execPushXy, execJpXy, execLdSpXy, execRlcXyd, execLdRRlcXyd,
      execRrcXyd, execLdRRrcXyd, execRlXyd, execLdRRlXyd, execRrXyd, execLdRRrXyd, execSlaXyd, execLdRSlaXyd, execSraXyd,
      execLdRSraXyd, execSllXyd, execLdRSllXyd, execSrlXyd, execLdRSrlXyd, execBitBXyd, execResBXyd, execLdRResBXyd,
      execSetBXyd, execLdRSetBXyd, Host.Outcome.next.injEq] at h <;>
    subst h <;>
    first
    | (simp [State.aluWrite, State.addA, State.adcA, State.subA, State.sbcA, State.andA, State.xorA, State.orA, State.cpA,
        State.incMem, State.decMem, State.shiftReg, State.shiftMem, State.changeMem, State.shiftIndexed,
        State.shiftIndexedCopy, State.changeIndexed, State.changeIndexedCopy, State.bitMem, State.bitIndexed,
        State.nibbleRotate, State.rotateA, State.loadXyd, State.storeXyd, State.swapTop, State.pushPair, State.loadSp,
        State.jumpRel, State.call, State.popPc, State.loadAFromIr, State.returnFromInterrupt, State.push,
        State.modifyByte, State.writeWord, State.afterPortRead, wf_storeByte, hm]; done)
    | (split <;> simp [State.aluWrite, State.addA, State.adcA, State.subA, State.sbcA, State.andA, State.xorA, State.orA, State.cpA,
        State.incMem, State.decMem, State.shiftReg, State.shiftMem, State.changeMem, State.shiftIndexed,
        State.shiftIndexedCopy, State.changeIndexed, State.changeIndexedCopy, State.bitMem, State.bitIndexed,
        State.nibbleRotate, State.rotateA, State.loadXyd, State.storeXyd, State.swapTop, State.pushPair, State.loadSp,
        State.jumpRel, State.call, State.popPc, State.loadAFromIr, State.returnFromInterrupt, State.push,
        State.modifyByte, State.writeWord, State.afterPortRead, wf_storeByte, hm])

/-- An instruction that writes no flag does not write F. -/
theorem flagsWritten_cells (i : Instr) (h : flagsWritten i = 0) : .f ∉ cellsWritten i := by
  cases i with
  | popQq qq => cases qq <;> first | decide | exact absurd h (by decide)
  | ldDdNn dd _ | ldDdMemNn dd _ | incSs dd | decSs dd => cases dd <;> simp [cellsWritten, rpCells]
  | ldRXyh xy r _ => cases r <;> simp [cellsWritten, xregCell]
  | _ => first | (simp only [flagsWritten] at h; exact absurd h (by decide)) | simp [cellsWritten]

theorem sameFlags_all (s t : State) : SameFlagsBut 0xFF s t := by
  intro k hk hm
  match k with
  | 0 | 1 | 2 | 3 | 4 | 5 | 6 | 7 => exact absurd hm (by decide)

set_option maxHeartbeats 4000000 in
/-- The flags no rule of an instruction writes (R30). -/
theorem exec_flags (i : Instr) (s t : State) (h : exec i s = .next t) : SameFlagsBut (flagsWritten i) s t := by
  by_cases h0 : flagsWritten i = 0
  · intro k _ _
    have := exec_cells i s t h .f (flagsWritten_cells i h0) (by decide) (by decide)
    rw [show t.f = s.f from BitVec.eq_of_toNat_eq this]
  by_cases h1 : flagsWritten i = 0xFF
  · rw [h1]; exact sameFlags_all s t
  by_cases h2 : flagsWritten i = 0xFE
  · rw [h2]
    refine sameFlags_allButC ?_
    cases i <;> first
      | exact absurd rfl h0
      | exact absurd rfl h1
      | (rename RP2 => qq; cases qq <;> first | exact absurd rfl h0 | exact absurd rfl h1)
      | (simp only [flagsWritten] at h2; exact absurd h2 (by decide))
      | (simp only [exec] at h
         simp only [execIncR, execIncMemHl, execIncXyh, execIncXyd, execDecR, execDecMemHl, execDecXyh, execDecXyd,
             execBitBR, execBitBMemHl, execBitBXyd, execRld, execRrd, execInRC, execInFC, execLdAI, execLdAR, execCpi,
             execCpd, execCpir, execCpdr, Host.Outcome.next.injEq] at h
         subst h
         simp [State.f, State.setBc, State.setDe, State.setHl, State.aluWrite, State.addA, State.adcA, State.subA,
             State.sbcA, State.andA, State.xorA, State.orA, State.cpA, State.incMem, State.decMem, State.shiftReg,
             State.shiftMem, State.changeMem, State.shiftIndexed, State.shiftIndexedCopy, State.changeIndexed,
             State.changeIndexedCopy, State.bitMem, State.bitIndexed, State.nibbleRotate, State.rotateA, State.loadXyd,
             State.storeXyd, State.swapTop, State.pushPair, State.loadSp, State.jumpRel, State.call, State.popPc,
             State.ldUnit, State.ldStep, State.ldRepeat, State.cpUnit, State.cpStep, State.cpRepeat, State.inUnit,
             State.inStep, State.inRepeat, State.outStep, State.outRepeat, State.stepHl, State.stepDe, State.loadAFromIr,
             inc8F_c, dec8F_c, bitF_c, keepCSz53p_c, loadIrF_c, cpBlockF_c])
  · intro k hk hm
    cases i <;> first
      | exact absurd rfl h0
      | exact absurd rfl h1
      | (rename RP2 => qq; cases qq <;> first | exact absurd rfl h0 | exact absurd rfl h1)
      | exact absurd rfl h2
      | (simp only [exec] at h
         simp only [flagsWritten] at hm
         simp only [execCpl, execScf, execCcf, execAddHlSs, execAddXyPp, execRlca, execRla, execRrca, execRra, execLdi,
             execLdd, execLdir, execLddr, Host.Outcome.next.injEq] at h
         subst h
         first
           | (have hk' := kept_arith hk hm; simp [State.f, State.setBc, State.setDe, State.setHl, State.aluWrite,
               State.addA, State.adcA, State.subA, State.sbcA, State.andA, State.xorA, State.orA, State.cpA, State.incMem,
               State.decMem, State.shiftReg, State.shiftMem, State.changeMem, State.shiftIndexed, State.shiftIndexedCopy,
               State.changeIndexed, State.changeIndexedCopy, State.bitMem, State.bitIndexed, State.nibbleRotate,
               State.rotateA, State.loadXyd, State.storeXyd, State.swapTop, State.pushPair, State.loadSp, State.jumpRel,
               State.call, State.popPc, State.ldUnit, State.ldStep, State.ldRepeat, State.cpUnit, State.cpStep,
               State.cpRepeat, State.inUnit, State.inStep, State.inRepeat, State.outStep, State.outRepeat, State.stepHl,
               State.stepDe, State.loadAFromIr, scfF_keep, ccfF_keep, add16F_keep, accFlags_keep, hk'])
           | (have hk' := kept_cpl hk hm; simp [State.f, State.setBc, State.setDe, State.setHl, State.aluWrite,
               State.addA, State.adcA, State.subA, State.sbcA, State.andA, State.xorA, State.orA, State.cpA, State.incMem,
               State.decMem, State.shiftReg, State.shiftMem, State.changeMem, State.shiftIndexed, State.shiftIndexedCopy,
               State.changeIndexed, State.changeIndexedCopy, State.bitMem, State.bitIndexed, State.nibbleRotate,
               State.rotateA, State.loadXyd, State.storeXyd, State.swapTop, State.pushPair, State.loadSp, State.jumpRel,
               State.call, State.popPc, State.ldUnit, State.ldStep, State.ldRepeat, State.cpUnit, State.cpStep,
               State.cpRepeat, State.inUnit, State.inStep, State.inRepeat, State.outStep, State.outRepeat, State.stepHl,
               State.stepDe, State.loadAFromIr, cplF_keep, hk'])
           | (have hk' := kept_ld hk hm; simp [State.f, State.setBc, State.setDe, State.setHl, State.aluWrite, State.addA,
               State.adcA, State.subA, State.sbcA, State.andA, State.xorA, State.orA, State.cpA, State.incMem,
               State.decMem, State.shiftReg, State.shiftMem, State.changeMem, State.shiftIndexed, State.shiftIndexedCopy,
               State.changeIndexed, State.changeIndexedCopy, State.bitMem, State.bitIndexed, State.nibbleRotate,
               State.rotateA, State.loadXyd, State.storeXyd, State.swapTop, State.pushPair, State.loadSp, State.jumpRel,
               State.call, State.popPc, State.ldUnit, State.ldStep, State.ldRepeat, State.cpUnit, State.cpStep,
               State.cpRepeat, State.inUnit, State.inStep, State.inRepeat, State.outStep, State.outRepeat, State.stepHl,
               State.stepDe, State.loadAFromIr, ldBlockF_keep, hk']))

/-- What every instruction leaves unchanged. -/
theorem exec_frame (i : Instr) (s t : State) (h : exec i s = .next t) : Frame i s t :=
  ⟨exec_cells i s t h, exec_flags i s t h, exec_memory i s t h, exec_latches i s t h⟩

end Sys2Proof.Machine
end

