-- ==== Sys2Proof/Laws/Cost.lean ====
section
/-! SUPPORT. What every instruction costs with no contention: the base totals of R320. -/

namespace Sys2Proof.Machine

set_option linter.unusedSimpArgs false

/-! ### Single operations (R319) -/

section
variable (s : State) (h : s.platform.contended = false)
include h

theorem fetchImm2_t : s.fetchImm2.t = s.t + 6 := by simp [State.fetchImm2, tick_t, h]
theorem fetchSubOp_t : s.fetchSubOp.t = s.t + 5 := by simp [State.fetchSubOp, tick_t, noMreq_t, h]
theorem fetchDisp_t : s.fetchDisp.t = s.t + 8 := by simp [State.fetchDisp, tick_t, noMreq_t, h]
theorem enterIndexedCb_t (xy : XY) (d : Byte) : (s.enterIndexedCb xy d).t = s.t + 8 := by
  simp [State.enterIndexedCb, tick_t, fetchSubOp_t, h]
theorem afterReadWord_t (a : Word) : (s.afterReadWord a).t = s.t + 6 := by simp [State.afterReadWord, tick_t, h]
theorem writeWord_t (a v : Word) : (s.writeWord a v).t = s.t + 6 := by simp [State.writeWord, tick_t, h]
theorem push_t (v : Word) : (s.push v).t = s.t + 6 := by simp [State.push, tick_t, h]
theorem afterPop_t : s.afterPop.t = s.t + 6 := by simp [State.afterPop, afterReadWord_t, h]
theorem afterPortRead_t (p : Word) : (s.afterPortRead p).t = s.t + 4 := by simp [State.afterPortRead, tick_t, h]
theorem portWrite_t (p : Word) (v : Byte) : (s.portWrite p v).t = s.t + 4 := by simp [State.portWrite, tick_t, h]
theorem modifyByte_t (a : Word) (v : Byte) : (s.modifyByte a v).t = s.t + 7 := by
  simp [State.modifyByte, tick_t, noMreq_t, h]
theorem returnFromInterrupt_t : s.returnFromInterrupt.t = s.t + 6 := by simp [State.returnFromInterrupt, afterPop_t, h]

end

/-! ### The conditional forms -/

theorem cpRepeat_cost (s : State) (dir : Dir) (hc : s.platform.contended = false) :
    (s.cpRepeat dir).t = s.t + if s.bc = 1 ∨ s.main.a = s.byteAt s.hl then 8 else 13 := by
  have hb := pred_eq_zero s.bc
  have hbc : (((s.afterRead s.hl).noMreq s.hl 5).setBc (s.bc - 1)).bc = s.bc - 1 := by simp [State.bc, State.setBc, Bank.set]
  simp only [State.cpRepeat, State.cpUnit, State.stepHl, setHl_t]
  rw [repeatIf_t _ _ _ _ (by simpa using hc)]
  simp only [State.f, setF_main, cpBlock_again, hbc]
  simp [tick_t, ticks_t, noMreq_t, noMreqWrite_t, repeatIf_t, hc]
  by_cases h1 : s.bc = 1 <;> by_cases h2 : s.main.a = s.byteAt s.hl <;> simp_all

theorem ldRepeat_cost (s : State) (dir : Dir) (hc : s.platform.contended = false) :
    (s.ldRepeat dir).t = s.t + if s.bc = 1 then 8 else 13 := by
  have hb := pred_eq_zero s.bc
  simp [State.ldRepeat, State.ldUnit, State.stepHl, State.stepDe, tick_t, ticks_t, noMreq_t, noMreqWrite_t, repeatIf_t, hc]
  by_cases h1 : s.bc = 1 <;> simp_all [State.bc, State.setBc, Bank.set]

theorem inRepeat_cost (s : State) (dir : Dir) (hc : s.platform.contended = false) :
    (s.inRepeat dir).t = s.t + if s.main.b = 1 then 8 else 13 := by
  have hb := pred_eq_zero8 s.main.b
  simp [State.inRepeat, State.inUnit, State.stepHl, State.afterPortRead, tick_t, ticks_t, noMreq_t, noMreqWrite_t, repeatIf_t, hc]
  by_cases h1 : s.main.b = 1 <;> simp_all [Bank.set]

theorem outRepeat_cost (s : State) (dir : Dir) (hc : s.platform.contended = false) :
    (s.outRepeat dir).t = s.t + if s.main.b = 1 then 8 else 13 := by
  have hb := pred_eq_zero8 s.main.b
  simp [State.outRepeat, State.outStep, State.stepHl, State.setHl, State.portWrite, tick_t, ticks_t, noMreq_t, noMreqWrite_t, repeatIf_t, hc]
  by_cases h1 : s.main.b = 1 <;> simp_all [Bank.set]

theorem djnz_cost (s t : State) (e : Byte) (h : exec (.djnz e) s = .next t) : BaseCost (.djnz e) s t := by
  intro hc
  have hb := pred_eq_zero8 s.main.b
  simp only [exec, execDjnz, Host.Outcome.next.injEq] at h
  subst h
  simp only [baseT, opcodeFetches]
  by_cases h1 : s.main.b = 1 <;> simp_all [tick_t, ticks_t, noMreq_t, noMreqWrite_t, repeatIf_t, State.jumpRel, Bank.set]

theorem retCc_cost (s t : State) (cc : Cond) (h : exec (.retCc cc) s = .next t) : BaseCost (.retCc cc) s t := by
  intro hc
  simp only [exec, execRetCc, Host.Outcome.next.injEq] at h
  subst h
  have hcond : (s.noMreq s.ir 1).cond cc = s.cond cc := by cases cc <;> simp [State.cond, State.f]
  rw [hcond]
  simp only [baseT, opcodeFetches]
  split <;> simp [tick_t, ticks_t, noMreq_t, noMreqWrite_t, repeatIf_t, State.popPc, State.afterPop, State.afterReadWord, hc]

set_option maxHeartbeats 4000000 in
/-- With no contention every instruction costs its base total. -/
theorem exec_cost (i : Instr) (s t : State) (h : exec i s = .next t) : BaseCost i s t := by
  cases i with
  | djnz e => exact djnz_cost s t e h
  | retCc cc => exact retCc_cost s t cc h
  | ldir | lddr | cpir | cpdr | inir | indr | otir | otdr =>
    intro hc
    simp only [exec, execLdir, execLddr, execCpir, execCpdr, execInir, execIndr, execOtir, execOtdr,
      Host.Outcome.next.injEq] at h
    subst h
    simp only [baseT, opcodeFetches, ldRepeat_cost _ _ hc, cpRepeat_cost _ _ hc, inRepeat_cost _ _ hc, outRepeat_cost _ _ hc]
    split <;> rfl
  | _ =>
    intro hc
    simp only [exec] at h
    simp only [execNop, execExAfAf, execDjnz, execJr, execJrCc, execLdDdNn, execAddHlSs, execLdMemRrA, execLdAMemRr, execLdMemNnHl,
      execLdHlMemNn, execLdMemNnA, execLdAMemNn, execIncSs, execDecSs, execIncR, execIncMemHl, execDecR, execDecMemHl,
      execLdRN, execLdMemHlN, execRlca, execRrca, execRla, execRra, execDaa, execCpl, execScf, execCcf, execLdRR,
      execLdRMemHl, execLdMemHlR, execHalt, execAddAR, execAddAMemHl, execAddAN, execAdcAR, execAdcAMemHl, execAdcAN,
      execSubR, execSubMemHl, execSubN, execSbcAR, execSbcAMemHl, execSbcAN, execAndR, execAndMemHl, execAndN, execXorR,
      execXorMemHl, execXorN, execOrR, execOrMemHl, execOrN, execCpR, execCpMemHl, execCpN, execRetCc, execPopQq, execRet,
      execExx, execJpHl, execLdSpHl, execJpCcNn, execJpNn, execOutNA, execInAN, execExSpHl, execExDeHl, execDi, execEi,
      execCallCcNn, execPushQq, execCallNn, execRst, execRlcR, execRlcMemHl, execRrcR, execRrcMemHl, execRlR, execRlMemHl,
      execRrR, execRrMemHl, execSlaR, execSlaMemHl, execSraR, execSraMemHl, execSllR, execSllMemHl, execSrlR,
      execSrlMemHl, execBitBR, execBitBMemHl, execResBR, execResBMemHl, execSetBR, execSetBMemHl, execNopEd, execInRC,
      execInFC, execOutCR, execOutC0, execSbcHlSs, execAdcHlSs, execLdMemNnDd, execLdDdMemNn, execNeg, execRetn, execReti,
      execIm0, execIm1, execIm2, execLdIA, execLdRA, execLdAI, execLdAR, execRrd, execRld, execLdi, execCpi, execIni,
      execOuti, execLdd, execCpd, execInd, execOutd, execLdir, execCpir, execInir, execOtir, execLddr, execCpdr, execIndr,
      execOtdr, execXyPrefix, execAddXyPp, execLdXyNn, execLdMemNnXy, execLdXyMemNn, execIncXy, execDecXy, execIncXyh,
      execDecXyh, execLdXyhN, execIncXyd, execDecXyd, execLdXydN, execLdRXyd, execLdXydR, execLdHlXyd, execLdXydHl,
      execLdAXyd, execLdXydA, execLdRXyh, execLdXyhR, execLdXyhA, execAddAXyh, execAddAXyd, execAdcAXyh, execAdcAXyd,
      execSubXyh, execSubXyd, execSbcAXyh, execSbcAXyd, execAndXyh, execAndXyd, execXorXyh, execXorXyd, execOrXyh,
      execOrXyd, execCpXyh, execCpXyd, execPopXy, execExSpXy, execPushXy, execJpXy, execLdSpXy, execRlcXyd, execLdRRlcXyd,
      execRrcXyd, execLdRRrcXyd, execRlXyd, execLdRRlXyd, execRrXyd, execLdRRrXyd, execSlaXyd, execLdRSlaXyd, execSraXyd,
      execLdRSraXyd, execSllXyd, execLdRSllXyd, execSrlXyd, execLdRSrlXyd, execBitBXyd, execResBXyd, execLdRResBXyd,
      execSetBXyd, execLdRSetBXyd, Host.Outcome.next.injEq] at h
    subst h
    simp only [baseT, opcodeFetches] <;>
    first
    | (simp [State.aluWrite, State.addA, State.adcA, State.subA, State.sbcA, State.andA, State.xorA, State.orA, State.cpA,
        State.incMem, State.decMem, State.shiftReg, State.shiftMem, State.changeMem, State.shiftIndexed,
        State.shiftIndexedCopy, State.changeIndexed, State.changeIndexedCopy, State.bitMem, State.bitIndexed,
        State.nibbleRotate, State.rotateA, State.loadXyd, State.storeXyd, State.swapTop, State.pushPair, State.loadSp,
        State.jumpRel, State.call, State.popPc, State.ldUnit, State.ldStep, State.ldRepeat, State.cpUnit, State.cpStep,
        State.cpRepeat, State.inUnit, State.inStep, State.inRepeat, State.outStep, State.outRepeat, State.stepHl,
        State.stepDe, State.loadAFromIr, State.afterSource, tick_t, ticks_t, noMreq_t, noMreqWrite_t, repeatIf_t,
        fetchImm2_t, fetchDisp_t, enterIndexedCb_t, afterReadWord_t, writeWord_t, push_t, afterPop_t, afterPortRead_t,
        portWrite_t, modifyByte_t, returnFromInterrupt_t, hc]; done)
    | (split <;> simp [State.aluWrite, State.addA, State.adcA, State.subA, State.sbcA, State.andA, State.xorA, State.orA, State.cpA,
        State.incMem, State.decMem, State.shiftReg, State.shiftMem, State.changeMem, State.shiftIndexed,
        State.shiftIndexedCopy, State.changeIndexed, State.changeIndexedCopy, State.bitMem, State.bitIndexed,
        State.nibbleRotate, State.rotateA, State.loadXyd, State.storeXyd, State.swapTop, State.pushPair, State.loadSp,
        State.jumpRel, State.call, State.popPc, State.ldUnit, State.ldStep, State.ldRepeat, State.cpUnit, State.cpStep,
        State.cpRepeat, State.inUnit, State.inStep, State.inRepeat, State.outStep, State.outRepeat, State.stepHl,
        State.stepDe, State.loadAFromIr, State.afterSource, State.cond, tick_t, ticks_t, noMreq_t, noMreqWrite_t,
        repeatIf_t, fetchImm2_t, fetchDisp_t, enterIndexedCb_t, afterReadWord_t, writeWord_t, push_t, afterPop_t,
        afterPortRead_t, portWrite_t, modifyByte_t, returnFromInterrupt_t, hc, *])

/-- What every instruction leaves unchanged, and its base cost. -/
theorem exec_frameAndCost (i : Instr) (s t : State) (h : exec i s = .next t) : FrameAndCost i s t :=
  ⟨exec_frame i s t h, exec_cost i s t h⟩

end Sys2Proof.Machine
end

