-- ==== Sys2Proof/Laws/PerInstr.lean ====
section
/-! SUPPORT. Facts about every instruction as syntax, one lemma for each constructor. -/

namespace Sys2Proof.Laws.Encoding

open Sys2Proof.Machine

/-- An instruction has one to four bytes (R94), and its opcode fetches read no more than those. -/
def Statement (i : Instr) : Prop :=
  1 ≤ (encode i).length ∧ (encode i).length ≤ 4 ∧ opcodeFetches i ≤ (encode i).length

/-- The two numbers of an instruction give its statement. -/
theorem of_lengths {i : Instr} (bytes fetches : Nat) (hb : (encode i).length = bytes) (hf : opcodeFetches i = fetches)
    (h : 1 ≤ bytes ∧ bytes ≤ 4 ∧ fetches ≤ bytes) : Statement i := by
  subst hb hf
  exact h

theorem nop : Statement .nop := of_lengths 1 1 rfl rfl (by decide)
theorem exAfAf : Statement .exAfAf := of_lengths 1 1 rfl rfl (by decide)
theorem djnz (e : Byte) : Statement (.djnz e) := of_lengths 2 1 rfl rfl (by decide)
theorem jr (e : Byte) : Statement (.jr e) := of_lengths 2 1 rfl rfl (by decide)
theorem jrCc (cc : Cond) (e : Byte) : Statement (.jrCc cc e) := of_lengths 2 1 rfl rfl (by decide)
theorem ldDdNn (dd : RP) (nn : Word) : Statement (.ldDdNn dd nn) := of_lengths 3 1 rfl rfl (by decide)
theorem addHlSs (ss : RP) : Statement (.addHlSs ss) := of_lengths 1 1 rfl rfl (by decide)
theorem ldMemRrA (rr : RR) : Statement (.ldMemRrA rr) := of_lengths 1 1 rfl rfl (by decide)
theorem ldAMemRr (rr : RR) : Statement (.ldAMemRr rr) := of_lengths 1 1 rfl rfl (by decide)
theorem ldMemNnHl (nn : Word) : Statement (.ldMemNnHl nn) := of_lengths 3 1 rfl rfl (by decide)
theorem ldHlMemNn (nn : Word) : Statement (.ldHlMemNn nn) := of_lengths 3 1 rfl rfl (by decide)
theorem ldMemNnA (nn : Word) : Statement (.ldMemNnA nn) := of_lengths 3 1 rfl rfl (by decide)
theorem ldAMemNn (nn : Word) : Statement (.ldAMemNn nn) := of_lengths 3 1 rfl rfl (by decide)
theorem incSs (ss : RP) : Statement (.incSs ss) := of_lengths 1 1 rfl rfl (by decide)
theorem decSs (ss : RP) : Statement (.decSs ss) := of_lengths 1 1 rfl rfl (by decide)
theorem incR (r : R8) : Statement (.incR r) := of_lengths 1 1 rfl rfl (by decide)
theorem incMemHl : Statement .incMemHl := of_lengths 1 1 rfl rfl (by decide)
theorem decR (r : R8) : Statement (.decR r) := of_lengths 1 1 rfl rfl (by decide)
theorem decMemHl : Statement .decMemHl := of_lengths 1 1 rfl rfl (by decide)
theorem ldRN (r : R8) (n : Byte) : Statement (.ldRN r n) := of_lengths 2 1 rfl rfl (by decide)
theorem ldMemHlN (n : Byte) : Statement (.ldMemHlN n) := of_lengths 2 1 rfl rfl (by decide)
theorem rlca : Statement .rlca := of_lengths 1 1 rfl rfl (by decide)
theorem rrca : Statement .rrca := of_lengths 1 1 rfl rfl (by decide)
theorem rla : Statement .rla := of_lengths 1 1 rfl rfl (by decide)
theorem rra : Statement .rra := of_lengths 1 1 rfl rfl (by decide)
theorem daa : Statement .daa := of_lengths 1 1 rfl rfl (by decide)
theorem cpl : Statement .cpl := of_lengths 1 1 rfl rfl (by decide)
theorem scf : Statement .scf := of_lengths 1 1 rfl rfl (by decide)
theorem ccf : Statement .ccf := of_lengths 1 1 rfl rfl (by decide)
theorem ldRR (r : R8) (q : R8) : Statement (.ldRR r q) := of_lengths 1 1 rfl rfl (by decide)
theorem ldRMemHl (r : R8) : Statement (.ldRMemHl r) := of_lengths 1 1 rfl rfl (by decide)
theorem ldMemHlR (r : R8) : Statement (.ldMemHlR r) := of_lengths 1 1 rfl rfl (by decide)
theorem halt : Statement .halt := of_lengths 1 1 rfl rfl (by decide)
theorem addAR (r : R8) : Statement (.addAR r) := of_lengths 1 1 rfl rfl (by decide)
theorem addAMemHl : Statement .addAMemHl := of_lengths 1 1 rfl rfl (by decide)
theorem addAN (n : Byte) : Statement (.addAN n) := of_lengths 2 1 rfl rfl (by decide)
theorem adcAR (r : R8) : Statement (.adcAR r) := of_lengths 1 1 rfl rfl (by decide)
theorem adcAMemHl : Statement .adcAMemHl := of_lengths 1 1 rfl rfl (by decide)
theorem adcAN (n : Byte) : Statement (.adcAN n) := of_lengths 2 1 rfl rfl (by decide)
theorem subR (r : R8) : Statement (.subR r) := of_lengths 1 1 rfl rfl (by decide)
theorem subMemHl : Statement .subMemHl := of_lengths 1 1 rfl rfl (by decide)
theorem subN (n : Byte) : Statement (.subN n) := of_lengths 2 1 rfl rfl (by decide)
theorem sbcAR (r : R8) : Statement (.sbcAR r) := of_lengths 1 1 rfl rfl (by decide)
theorem sbcAMemHl : Statement .sbcAMemHl := of_lengths 1 1 rfl rfl (by decide)
theorem sbcAN (n : Byte) : Statement (.sbcAN n) := of_lengths 2 1 rfl rfl (by decide)
theorem andR (r : R8) : Statement (.andR r) := of_lengths 1 1 rfl rfl (by decide)
theorem andMemHl : Statement .andMemHl := of_lengths 1 1 rfl rfl (by decide)
theorem andN (n : Byte) : Statement (.andN n) := of_lengths 2 1 rfl rfl (by decide)
theorem xorR (r : R8) : Statement (.xorR r) := of_lengths 1 1 rfl rfl (by decide)
theorem xorMemHl : Statement .xorMemHl := of_lengths 1 1 rfl rfl (by decide)
theorem xorN (n : Byte) : Statement (.xorN n) := of_lengths 2 1 rfl rfl (by decide)
theorem orR (r : R8) : Statement (.orR r) := of_lengths 1 1 rfl rfl (by decide)
theorem orMemHl : Statement .orMemHl := of_lengths 1 1 rfl rfl (by decide)
theorem orN (n : Byte) : Statement (.orN n) := of_lengths 2 1 rfl rfl (by decide)
theorem cpR (r : R8) : Statement (.cpR r) := of_lengths 1 1 rfl rfl (by decide)
theorem cpMemHl : Statement .cpMemHl := of_lengths 1 1 rfl rfl (by decide)
theorem cpN (n : Byte) : Statement (.cpN n) := of_lengths 2 1 rfl rfl (by decide)
theorem retCc (cc : Cond) : Statement (.retCc cc) := of_lengths 1 1 rfl rfl (by decide)
theorem popQq (qq : RP2) : Statement (.popQq qq) := of_lengths 1 1 rfl rfl (by decide)
theorem ret : Statement .ret := of_lengths 1 1 rfl rfl (by decide)
theorem exx : Statement .exx := of_lengths 1 1 rfl rfl (by decide)
theorem jpHl : Statement .jpHl := of_lengths 1 1 rfl rfl (by decide)
theorem ldSpHl : Statement .ldSpHl := of_lengths 1 1 rfl rfl (by decide)
theorem jpCcNn (cc : Cond) (nn : Word) : Statement (.jpCcNn cc nn) := of_lengths 3 1 rfl rfl (by decide)
theorem jpNn (nn : Word) : Statement (.jpNn nn) := of_lengths 3 1 rfl rfl (by decide)
theorem outNA (n : Byte) : Statement (.outNA n) := of_lengths 2 1 rfl rfl (by decide)
theorem inAN (n : Byte) : Statement (.inAN n) := of_lengths 2 1 rfl rfl (by decide)
theorem exSpHl : Statement .exSpHl := of_lengths 1 1 rfl rfl (by decide)
theorem exDeHl : Statement .exDeHl := of_lengths 1 1 rfl rfl (by decide)
theorem di : Statement .di := of_lengths 1 1 rfl rfl (by decide)
theorem ei : Statement .ei := of_lengths 1 1 rfl rfl (by decide)
theorem callCcNn (cc : Cond) (nn : Word) : Statement (.callCcNn cc nn) := of_lengths 3 1 rfl rfl (by decide)
theorem pushQq (qq : RP2) : Statement (.pushQq qq) := of_lengths 1 1 rfl rfl (by decide)
theorem callNn (nn : Word) : Statement (.callNn nn) := of_lengths 3 1 rfl rfl (by decide)
theorem rst (p : BitVec 3) : Statement (.rst p) := of_lengths 1 1 rfl rfl (by decide)
theorem rlcR (r : R8) : Statement (.rlcR r) := of_lengths 2 2 rfl rfl (by decide)
theorem rlcMemHl : Statement .rlcMemHl := of_lengths 2 2 rfl rfl (by decide)
theorem rrcR (r : R8) : Statement (.rrcR r) := of_lengths 2 2 rfl rfl (by decide)
theorem rrcMemHl : Statement .rrcMemHl := of_lengths 2 2 rfl rfl (by decide)
theorem rlR (r : R8) : Statement (.rlR r) := of_lengths 2 2 rfl rfl (by decide)
theorem rlMemHl : Statement .rlMemHl := of_lengths 2 2 rfl rfl (by decide)
theorem rrR (r : R8) : Statement (.rrR r) := of_lengths 2 2 rfl rfl (by decide)
theorem rrMemHl : Statement .rrMemHl := of_lengths 2 2 rfl rfl (by decide)
theorem slaR (r : R8) : Statement (.slaR r) := of_lengths 2 2 rfl rfl (by decide)
theorem slaMemHl : Statement .slaMemHl := of_lengths 2 2 rfl rfl (by decide)
theorem sraR (r : R8) : Statement (.sraR r) := of_lengths 2 2 rfl rfl (by decide)
theorem sraMemHl : Statement .sraMemHl := of_lengths 2 2 rfl rfl (by decide)
theorem sllR (r : R8) : Statement (.sllR r) := of_lengths 2 2 rfl rfl (by decide)
theorem sllMemHl : Statement .sllMemHl := of_lengths 2 2 rfl rfl (by decide)
theorem srlR (r : R8) : Statement (.srlR r) := of_lengths 2 2 rfl rfl (by decide)
theorem srlMemHl : Statement .srlMemHl := of_lengths 2 2 rfl rfl (by decide)
theorem bitBR (b : BitVec 3) (r : R8) : Statement (.bitBR b r) := of_lengths 2 2 rfl rfl (by decide)
theorem bitBMemHl (b : BitVec 3) : Statement (.bitBMemHl b) := of_lengths 2 2 rfl rfl (by decide)
theorem resBR (b : BitVec 3) (r : R8) : Statement (.resBR b r) := of_lengths 2 2 rfl rfl (by decide)
theorem resBMemHl (b : BitVec 3) : Statement (.resBMemHl b) := of_lengths 2 2 rfl rfl (by decide)
theorem setBR (b : BitVec 3) (r : R8) : Statement (.setBR b r) := of_lengths 2 2 rfl rfl (by decide)
theorem setBMemHl (b : BitVec 3) : Statement (.setBMemHl b) := of_lengths 2 2 rfl rfl (by decide)
theorem nopEd (op : Byte) : Statement (.nopEd op) := of_lengths 2 2 rfl rfl (by decide)
theorem inRC (r : R8) : Statement (.inRC r) := of_lengths 2 2 rfl rfl (by decide)
theorem inFC : Statement .inFC := of_lengths 2 2 rfl rfl (by decide)
theorem outCR (r : R8) : Statement (.outCR r) := of_lengths 2 2 rfl rfl (by decide)
theorem outC0 : Statement .outC0 := of_lengths 2 2 rfl rfl (by decide)
theorem sbcHlSs (ss : RP) : Statement (.sbcHlSs ss) := of_lengths 2 2 rfl rfl (by decide)
theorem adcHlSs (ss : RP) : Statement (.adcHlSs ss) := of_lengths 2 2 rfl rfl (by decide)
theorem ldMemNnDd (dd : RP) (nn : Word) : Statement (.ldMemNnDd dd nn) := of_lengths 4 2 rfl rfl (by decide)
theorem ldDdMemNn (dd : RP) (nn : Word) : Statement (.ldDdMemNn dd nn) := of_lengths 4 2 rfl rfl (by decide)
theorem neg (y : BitVec 3) : Statement (.neg y) := of_lengths 2 2 rfl rfl (by decide)
theorem retn (y : BitVec 3) : Statement (.retn y) := of_lengths 2 2 rfl rfl (by decide)
theorem reti : Statement .reti := of_lengths 2 2 rfl rfl (by decide)
theorem im0 (y : BitVec 3) : Statement (.im0 y) := of_lengths 2 2 rfl rfl (by decide)
theorem im1 (y : BitVec 3) : Statement (.im1 y) := of_lengths 2 2 rfl rfl (by decide)
theorem im2 (y : BitVec 3) : Statement (.im2 y) := of_lengths 2 2 rfl rfl (by decide)
theorem ldIA : Statement .ldIA := of_lengths 2 2 rfl rfl (by decide)
theorem ldRA : Statement .ldRA := of_lengths 2 2 rfl rfl (by decide)
theorem ldAI : Statement .ldAI := of_lengths 2 2 rfl rfl (by decide)
theorem ldAR : Statement .ldAR := of_lengths 2 2 rfl rfl (by decide)
theorem rrd : Statement .rrd := of_lengths 2 2 rfl rfl (by decide)
theorem rld : Statement .rld := of_lengths 2 2 rfl rfl (by decide)
theorem ldi : Statement .ldi := of_lengths 2 2 rfl rfl (by decide)
theorem cpi : Statement .cpi := of_lengths 2 2 rfl rfl (by decide)
theorem ini : Statement .ini := of_lengths 2 2 rfl rfl (by decide)
theorem outi : Statement .outi := of_lengths 2 2 rfl rfl (by decide)
theorem ldd : Statement .ldd := of_lengths 2 2 rfl rfl (by decide)
theorem cpd : Statement .cpd := of_lengths 2 2 rfl rfl (by decide)
theorem ind : Statement .ind := of_lengths 2 2 rfl rfl (by decide)
theorem outd : Statement .outd := of_lengths 2 2 rfl rfl (by decide)
theorem ldir : Statement .ldir := of_lengths 2 2 rfl rfl (by decide)
theorem cpir : Statement .cpir := of_lengths 2 2 rfl rfl (by decide)
theorem inir : Statement .inir := of_lengths 2 2 rfl rfl (by decide)
theorem otir : Statement .otir := of_lengths 2 2 rfl rfl (by decide)
theorem lddr : Statement .lddr := of_lengths 2 2 rfl rfl (by decide)
theorem cpdr : Statement .cpdr := of_lengths 2 2 rfl rfl (by decide)
theorem indr : Statement .indr := of_lengths 2 2 rfl rfl (by decide)
theorem otdr : Statement .otdr := of_lengths 2 2 rfl rfl (by decide)
theorem xyPrefix (xy : XY) : Statement (.xyPrefix xy) := of_lengths 1 1 rfl rfl (by decide)
theorem addXyPp (xy : XY) (pp : PP) : Statement (.addXyPp xy pp) := of_lengths 2 2 rfl rfl (by decide)
theorem ldXyNn (xy : XY) (nn : Word) : Statement (.ldXyNn xy nn) := of_lengths 4 2 rfl rfl (by decide)
theorem ldMemNnXy (xy : XY) (nn : Word) : Statement (.ldMemNnXy xy nn) := of_lengths 4 2 rfl rfl (by decide)
theorem ldXyMemNn (xy : XY) (nn : Word) : Statement (.ldXyMemNn xy nn) := of_lengths 4 2 rfl rfl (by decide)
theorem incXy (xy : XY) : Statement (.incXy xy) := of_lengths 2 2 rfl rfl (by decide)
theorem decXy (xy : XY) : Statement (.decXy xy) := of_lengths 2 2 rfl rfl (by decide)
theorem incXyh (xy : XY) (h : Half) : Statement (.incXyh xy h) := of_lengths 2 2 rfl rfl (by decide)
theorem decXyh (xy : XY) (h : Half) : Statement (.decXyh xy h) := of_lengths 2 2 rfl rfl (by decide)
theorem ldXyhN (xy : XY) (h : Half) (n : Byte) : Statement (.ldXyhN xy h n) := of_lengths 3 2 rfl rfl (by decide)
theorem incXyd (xy : XY) (d : Byte) : Statement (.incXyd xy d) := of_lengths 3 2 rfl rfl (by decide)
theorem decXyd (xy : XY) (d : Byte) : Statement (.decXyd xy d) := of_lengths 3 2 rfl rfl (by decide)
theorem ldXydN (xy : XY) (d : Byte) (n : Byte) : Statement (.ldXydN xy d n) := of_lengths 4 2 rfl rfl (by decide)
theorem ldRXyd (xy : XY) (r : R8) (d : Byte) : Statement (.ldRXyd xy r d) := of_lengths 3 2 rfl rfl (by decide)
theorem ldXydR (xy : XY) (r : R8) (d : Byte) : Statement (.ldXydR xy r d) := of_lengths 3 2 rfl rfl (by decide)
theorem ldHlXyd (xy : XY) (r : R8) (d : Byte) : Statement (.ldHlXyd xy r d) := of_lengths 3 2 rfl rfl (by decide)
theorem ldXydHl (xy : XY) (r : R8) (d : Byte) : Statement (.ldXydHl xy r d) := of_lengths 3 2 rfl rfl (by decide)
theorem ldAXyd (xy : XY) (d : Byte) : Statement (.ldAXyd xy d) := of_lengths 3 2 rfl rfl (by decide)
theorem ldXydA (xy : XY) (d : Byte) : Statement (.ldXydA xy d) := of_lengths 3 2 rfl rfl (by decide)
theorem ldRXyh (xy : XY) (r : XReg) (h : Half) : Statement (.ldRXyh xy r h) := of_lengths 2 2 rfl rfl (by decide)
theorem ldXyhR (xy : XY) (h : Half) (r : R8) : Statement (.ldXyhR xy h r) := of_lengths 2 2 rfl rfl (by decide)
theorem ldXyhA (xy : XY) (h : Half) : Statement (.ldXyhA xy h) := of_lengths 2 2 rfl rfl (by decide)
theorem addAXyh (xy : XY) (h : Half) : Statement (.addAXyh xy h) := of_lengths 2 2 rfl rfl (by decide)
theorem addAXyd (xy : XY) (d : Byte) : Statement (.addAXyd xy d) := of_lengths 3 2 rfl rfl (by decide)
theorem adcAXyh (xy : XY) (h : Half) : Statement (.adcAXyh xy h) := of_lengths 2 2 rfl rfl (by decide)
theorem adcAXyd (xy : XY) (d : Byte) : Statement (.adcAXyd xy d) := of_lengths 3 2 rfl rfl (by decide)
theorem subXyh (xy : XY) (h : Half) : Statement (.subXyh xy h) := of_lengths 2 2 rfl rfl (by decide)
theorem subXyd (xy : XY) (d : Byte) : Statement (.subXyd xy d) := of_lengths 3 2 rfl rfl (by decide)
theorem sbcAXyh (xy : XY) (h : Half) : Statement (.sbcAXyh xy h) := of_lengths 2 2 rfl rfl (by decide)
theorem sbcAXyd (xy : XY) (d : Byte) : Statement (.sbcAXyd xy d) := of_lengths 3 2 rfl rfl (by decide)
theorem andXyh (xy : XY) (h : Half) : Statement (.andXyh xy h) := of_lengths 2 2 rfl rfl (by decide)
theorem andXyd (xy : XY) (d : Byte) : Statement (.andXyd xy d) := of_lengths 3 2 rfl rfl (by decide)
theorem xorXyh (xy : XY) (h : Half) : Statement (.xorXyh xy h) := of_lengths 2 2 rfl rfl (by decide)
theorem xorXyd (xy : XY) (d : Byte) : Statement (.xorXyd xy d) := of_lengths 3 2 rfl rfl (by decide)
theorem orXyh (xy : XY) (h : Half) : Statement (.orXyh xy h) := of_lengths 2 2 rfl rfl (by decide)
theorem orXyd (xy : XY) (d : Byte) : Statement (.orXyd xy d) := of_lengths 3 2 rfl rfl (by decide)
theorem cpXyh (xy : XY) (h : Half) : Statement (.cpXyh xy h) := of_lengths 2 2 rfl rfl (by decide)
theorem cpXyd (xy : XY) (d : Byte) : Statement (.cpXyd xy d) := of_lengths 3 2 rfl rfl (by decide)
theorem popXy (xy : XY) : Statement (.popXy xy) := of_lengths 2 2 rfl rfl (by decide)
theorem exSpXy (xy : XY) : Statement (.exSpXy xy) := of_lengths 2 2 rfl rfl (by decide)
theorem pushXy (xy : XY) : Statement (.pushXy xy) := of_lengths 2 2 rfl rfl (by decide)
theorem jpXy (xy : XY) : Statement (.jpXy xy) := of_lengths 2 2 rfl rfl (by decide)
theorem ldSpXy (xy : XY) : Statement (.ldSpXy xy) := of_lengths 2 2 rfl rfl (by decide)
theorem rlcXyd (xy : XY) (d : Byte) : Statement (.rlcXyd xy d) := of_lengths 4 2 rfl rfl (by decide)
theorem ldRRlcXyd (xy : XY) (d : Byte) (r : R8) : Statement (.ldRRlcXyd xy d r) := of_lengths 4 2 rfl rfl (by decide)
theorem rrcXyd (xy : XY) (d : Byte) : Statement (.rrcXyd xy d) := of_lengths 4 2 rfl rfl (by decide)
theorem ldRRrcXyd (xy : XY) (d : Byte) (r : R8) : Statement (.ldRRrcXyd xy d r) := of_lengths 4 2 rfl rfl (by decide)
theorem rlXyd (xy : XY) (d : Byte) : Statement (.rlXyd xy d) := of_lengths 4 2 rfl rfl (by decide)
theorem ldRRlXyd (xy : XY) (d : Byte) (r : R8) : Statement (.ldRRlXyd xy d r) := of_lengths 4 2 rfl rfl (by decide)
theorem rrXyd (xy : XY) (d : Byte) : Statement (.rrXyd xy d) := of_lengths 4 2 rfl rfl (by decide)
theorem ldRRrXyd (xy : XY) (d : Byte) (r : R8) : Statement (.ldRRrXyd xy d r) := of_lengths 4 2 rfl rfl (by decide)
theorem slaXyd (xy : XY) (d : Byte) : Statement (.slaXyd xy d) := of_lengths 4 2 rfl rfl (by decide)
theorem ldRSlaXyd (xy : XY) (d : Byte) (r : R8) : Statement (.ldRSlaXyd xy d r) := of_lengths 4 2 rfl rfl (by decide)
theorem sraXyd (xy : XY) (d : Byte) : Statement (.sraXyd xy d) := of_lengths 4 2 rfl rfl (by decide)
theorem ldRSraXyd (xy : XY) (d : Byte) (r : R8) : Statement (.ldRSraXyd xy d r) := of_lengths 4 2 rfl rfl (by decide)
theorem sllXyd (xy : XY) (d : Byte) : Statement (.sllXyd xy d) := of_lengths 4 2 rfl rfl (by decide)
theorem ldRSllXyd (xy : XY) (d : Byte) (r : R8) : Statement (.ldRSllXyd xy d r) := of_lengths 4 2 rfl rfl (by decide)
theorem srlXyd (xy : XY) (d : Byte) : Statement (.srlXyd xy d) := of_lengths 4 2 rfl rfl (by decide)
theorem ldRSrlXyd (xy : XY) (d : Byte) (r : R8) : Statement (.ldRSrlXyd xy d r) := of_lengths 4 2 rfl rfl (by decide)
theorem bitBXyd (xy : XY) (d : Byte) (b : BitVec 3) (z : BitVec 3) : Statement (.bitBXyd xy d b z) := of_lengths 4 2 rfl rfl (by decide)
theorem resBXyd (xy : XY) (d : Byte) (b : BitVec 3) : Statement (.resBXyd xy d b) := of_lengths 4 2 rfl rfl (by decide)
theorem ldRResBXyd (xy : XY) (d : Byte) (b : BitVec 3) (r : R8) : Statement (.ldRResBXyd xy d b r) := of_lengths 4 2 rfl rfl (by decide)
theorem setBXyd (xy : XY) (d : Byte) (b : BitVec 3) : Statement (.setBXyd xy d b) := of_lengths 4 2 rfl rfl (by decide)
theorem ldRSetBXyd (xy : XY) (d : Byte) (b : BitVec 3) (r : R8) : Statement (.ldRSetBXyd xy d b r) := of_lengths 4 2 rfl rfl (by decide)

end Sys2Proof.Laws.Encoding
end

