-- ==== Sys2Proof/Laws/Step.lean ====
section
/-! SUPPORT. Everything one step can do: how the walk goes over a prefix chain to its leaf, and what a next state of a step comes
from (R73, R89, R288, R291). Later proofs cite `step_cases`, `dispatch_leaf`, `dispatch_chain`, `walk_none` and `walk_endless`, and
unfold no walk. -/

namespace Sys2Proof.Machine

section
variable (s : State) (n : Nat)

theorem fetchOps_fetchOp : s.fetchOp.fetchOps n = s.fetchOps (n + 1) := by
  induction n with
  | zero => rfl
  | succ n ih => rw [State.fetchOps, ih]; rfl

@[simp] theorem fetchOps_mem : (s.fetchOps n).mem = s.mem := by
  induction n with
  | zero => rfl
  | succ n ih => simp [State.fetchOps, ih]

@[simp] theorem fetchOps_platform : (s.fetchOps n).platform = s.platform := by
  induction n with
  | zero => rfl
  | succ n ih => simp [State.fetchOps, ih]

@[simp] theorem fetchOps_im : (s.fetchOps n).im = s.im := by
  induction n with
  | zero => rfl
  | succ n ih => simp [State.fetchOps, ih]

@[simp] theorem fetchOps_iff1 : (s.fetchOps n).iff1 = s.iff1 := by
  induction n with
  | zero => rfl
  | succ n ih => simp [State.fetchOps, ih]

@[simp] theorem fetchOps_iff2 : (s.fetchOps n).iff2 = s.iff2 := by
  induction n with
  | zero => rfl
  | succ n ih => simp [State.fetchOps, ih]

@[simp] theorem fetchOps_sp : (s.fetchOps n).sp = s.sp := by
  induction n with
  | zero => rfl
  | succ n ih => simp [State.fetchOps, ih]

@[simp] theorem fetchOps_halted : (s.fetchOps n).halted = s.halted := by
  induction n with
  | zero => rfl
  | succ n ih => simp [State.fetchOps, ih]

@[simp] theorem fetchOps_faulted : (s.fetchOps n).faulted = s.faulted := by
  induction n with
  | zero => rfl
  | succ n ih => simp [State.fetchOps, ih]

@[simp] theorem fetchOps_resetDone : (s.fetchOps n).resetDone = s.resetDone := by
  induction n with
  | zero => rfl
  | succ n ih => simp [State.fetchOps, ih]

end

@[simp] theorem kindAt_fetchOps (s : State) (n : Nat) (a : Word) : (s.fetchOps n).kindAt a = s.kindAt a :=
  kindAt_congr (by simp) a

/-- A draw depends on the map, the draws made and the answers lined up. -/
theorem drawAt_congr {s t : State} (hp : t.platform = s.platform) (hd : t.draws = s.draws) (ha : t.answers = s.answers)
    (a : Word) : (t.drawAt a).draws = (s.drawAt a).draws ∧ (t.drawAt a).answers = (s.drawAt a).answers := by
  unfold State.drawAt
  rw [kindAt_congr hp]
  split <;> simp [State.draw, hd, ha]

/-- The bytes to come depend on the map, the contents, the draws made and the answers lined up, and on nothing else. -/
theorem bytesFrom_congr (n : Nat) {s t : State} (hp : t.platform = s.platform) (hm : t.mem = s.mem) (hd : t.draws = s.draws)
    (ha : t.answers = s.answers) (a : Word) : bytesFrom n t a = bytesFrom n s a := by
  induction n generalizing s t a with
  | zero => rfl
  | succ n ih =>
    obtain ⟨hd', ha'⟩ := drawAt_congr hp hd ha a
    rw [bytesFrom, bytesFrom, byteAt_congr hp hm hd ha, ih (by simp [hp]) (by simp [hm]) hd' ha']

/-- The bytes from PC on: the one a fetch gives now, and those to come after it. -/
theorem bytesFrom_pc (n : Nat) (s : State) : bytesFrom (n + 1) s s.pc = s.byteAt s.pc :: bytesFrom n s.fetchOp s.fetchOp.pc := by
  rw [bytesFrom, fetchOp_pc, bytesFrom_congr n (s := s.drawAt s.pc) (t := s.fetchOp) (by simp) (by simp) (by simp) (by simp)]

@[simp] theorem isXyPrefix_xyPrefix (xy : XY) : isXyPrefix (.xyPrefix xy) = true := by cases xy <;> rfl

/-- Only the fallback byte continues the walk. -/
theorem isXyPrefix_cases {i : Instr} (h : isXyPrefix i = true) : ∃ xy, i = .xyPrefix xy := by
  simp only [isXyPrefix, Bool.or_eq_true, beq_iff_eq] at h
  rcases h with h | h
  · exact ⟨_, h⟩
  · exact ⟨_, h⟩

/-- One round at a leaf. -/
theorem walkRound_leaf {s : State} {i : Instr} (h : AtLeaf s i) :
    walkRound s = .done (endStep i (exec i (s.fetchOps (opcodeFetches i)))) := by
  obtain ⟨hi, rest, hd⟩ := h
  simp only [walkRound, hd, hi, Bool.false_eq_true, if_false]

/-- One round at a falling byte: it is fetched and the walk goes on. -/
theorem walkRound_fallback {s : State} (h : AtFallback s) : walkRound s = .on s.fetchOp := by
  obtain ⟨xy, rest, hd⟩ := h
  simp only [walkRound, hd, isXyPrefix_xyPrefix, if_true]
  rfl

/-- The walk goes on only from a falling byte, which was fetched. -/
theorem walkRound_on {s s1 : State} (h : walkRound s = .on s1) : AtFallback s ∧ s1 = s.fetchOp := by
  unfold walkRound at h
  split at h
  · cases h
  · next i rest hd =>
    split at h
    · next hp =>
      obtain ⟨xy, rfl⟩ := isXyPrefix_cases hp
      exact ⟨⟨xy, rest, hd⟩, by cases h; rfl⟩
    · cases h

/-- A round that ends the walk in a next state ran the leaf at PC. -/
theorem walkRound_next {s t : State} (h : walkRound s = .done (.next t)) :
    ∃ i u, AtLeaf s i ∧ exec i (s.fetchOps (opcodeFetches i)) = .next u ∧ t = u.setEiDelay (isEi i) := by
  unfold walkRound at h
  split at h
  · next r _ => cases r <;> cases h
  · next i rest hd =>
    split at h
    · next hp =>
      obtain ⟨xy, rfl⟩ := isXyPrefix_cases hp
      cases h
    · next hp =>
      cases he : exec i (s.fetchOps (opcodeFetches i)) with
      | next u =>
        rw [he] at h
        exact ⟨i, u, ⟨by simpa using hp, rest, hd⟩, he, by simpa [endStep] using h.symm⟩
      | fault r => rw [he] at h; cases h
      | refused r => rw [he] at h; cases h

/-- The walk, one round taken off. -/
theorem walk_round (s : State) :
    walk s = match walkRound s with
      | .done r => some r
      | .on s1 => walk s1 :=
  untilDone.eq_1 walkRound s

/-- The rounds taken one by one make no difference. -/
theorem dispatch_rounds (n : Nat) (s : State) : dispatch n s = (walk s).getD (.fault .endlessPrefixChain) := by
  induction n generalizing s with
  | zero => rfl
  | succ n ih =>
    rw [walk_round]
    cases h : walkRound s with
    | done r => simp [dispatch, h]
    | on s1 => simp [dispatch, h, ih]

/-- Where the walk ends, it ends in the round after a chain of falling bytes. -/
theorem walk_some {s : State} {r : Result} (h : walk s = some r) :
    ∃ m, (∀ k, k < m → AtFallback (s.fetchOps k)) ∧ walkRound (s.fetchOps m) = .done r := by
  refine untilDone.partial_correctness walkRound
    (fun s r => ∃ m, (∀ k, k < m → AtFallback (s.fetchOps k)) ∧ walkRound (s.fetchOps m) = .done r) ?_ s r h
  intro f ih s r hr
  split at hr
  · next r' hd =>
    obtain rfl := Option.some.inj hr
    exact ⟨0, fun k hk => absurd hk (by omega), hd⟩
  · next s1 hon =>
    obtain ⟨hf, rfl⟩ := walkRound_on hon
    obtain ⟨m, hk, hm⟩ := ih _ _ hr
    refine ⟨m + 1, ?_, by rwa [← fetchOps_fetchOp]⟩
    intro k hlt
    match k with
    | 0 => exact hf
    | k + 1 => rw [← fetchOps_fetchOp]; exact hk k (by omega)

/-- A chain of falling bytes of any length. -/
theorem walk_chain (m : Nat) (s : State) (h : ∀ k, k < m → AtFallback (s.fetchOps k)) : walk s = walk (s.fetchOps m) := by
  induction m with
  | zero => rfl
  | succ m ih =>
    rw [ih fun k hk => h k (by omega), walk_round, walkRound_fallback (h m (by omega))]
    rfl

/-- Where the walk does not end, every byte of the chain falls back. -/
theorem walk_none {s : State} (h : walk s = none) (k : Nat) : AtFallback (s.fetchOps k) := by
  induction k using Nat.strongRecOn with
  | ind k ih =>
    rw [walk_chain k s ih, walk_round] at h
    cases hr : walkRound (s.fetchOps k) with
    | done r => simp [hr] at h
    | on s1 => exact (walkRound_on hr).1

/-- A round at a falling byte does not end the walk. -/
theorem walkRound_ne_done {s : State} {r : Result} (h : AtFallback s) : walkRound s ≠ .done r := by
  rw [walkRound_fallback h]; exact fun e => nomatch e

/-- A walk over falling bytes without end does not end. -/
theorem walk_endless {s : State} (h : ∀ k, AtFallback (s.fetchOps k)) : walk s = none := by
  cases hw : walk s with
  | none => rfl
  | some r =>
    obtain ⟨m, -, hm⟩ := walk_some hw
    exact absurd hm (walkRound_ne_done (h m))

/-- At a leaf the walk ends. -/
theorem dispatch_leaf {s : State} {i : Instr} (n : Nat) (h : AtLeaf s i) :
    dispatch n s = endStep i (exec i (s.fetchOps (opcodeFetches i))) := by
  rw [dispatch_rounds, walk_round, walkRound_leaf h]; rfl

/-- A dispatch over a chain of falling bytes is the dispatch after them. -/
theorem dispatch_chain (m n : Nat) (s : State) (h : ∀ k, k < m → AtFallback (s.fetchOps k)) :
    dispatch n s = dispatch n (s.fetchOps m) := by
  rw [dispatch_rounds, dispatch_rounds, walk_chain m s h]

/-- A machine that is reset, not faulted and not halted dispatches. -/
theorem step_running {s : State} (h : Running s) : step s = dispatch firstRounds s := by
  obtain ⟨h1, h2, h3⟩ := h
  simp [step, runStep, h1, h2, h3]

/-- What a next state of a dispatch comes from. -/
theorem dispatch_cases (n : Nat) {s t : State} (h : dispatch n s = .next t) :
    ∃ m i u, (∀ k, k < m → AtFallback (s.fetchOps k)) ∧ AtLeaf (s.fetchOps m) i
      ∧ exec i ((s.fetchOps m).fetchOps (opcodeFetches i)) = .next u ∧ t = u.setEiDelay (isEi i) := by
  rw [dispatch_rounds] at h
  cases hw : walk s with
  | none => simp [hw] at h
  | some r =>
    obtain ⟨m, hk, hm⟩ := walk_some hw
    obtain rfl : r = .next t := by simpa [hw] using h
    obtain ⟨i, u, hl, hu, ht⟩ := walkRound_next hm
    exact ⟨m, i, u, hk, hl, hu, ht⟩

/-- Everything a step that answers a next state can have done: the halted idle step, or the opcode fetches of a prefix chain
and of one leaf instruction, that instruction, and the end of the dispatch. -/
theorem step_cases {s t : State} (h : step s = .next t) :
    s.resetDone = true ∧ s.faulted = none
      ∧ ((s.halted = true ∧ t = idleStep s)
        ∨ (s.halted = false ∧ ∃ m i u, (∀ k, k < m → AtFallback (s.fetchOps k)) ∧ AtLeaf (s.fetchOps m) i
            ∧ exec i ((s.fetchOps m).fetchOps (opcodeFetches i)) = .next u ∧ t = u.setEiDelay (isEi i))) := by
  unfold step runStep at h
  split at h
  · next hr =>
    split at h
    · simp at h
    · next hf =>
      split at h
      · next hh => exact ⟨hr, hf, .inl ⟨hh, by simpa using h.symm⟩⟩
      · next hh => exact ⟨hr, hf, .inr ⟨by simpa using hh, dispatch_cases _ h⟩⟩
  · simp at h

end Sys2Proof.Machine
end

