-- ==== Sys2Proof/Tests/Slice0.lean ====
section
/-! SUPPORT. Tests: the smoke test of WellFormed, a word of every constructor, single steps whose results are those of spec
95_test_vectors, and for each statement with hypotheses a state and operands that meet them. -/

namespace Sys2Proof.Tests

open Sys2Proof Sys2Proof.Machine

/-! ### Helpers -/

/-- The outcome is a next state with a property. -/
def ends (r : Host.Outcome State Fault Refusal) (p : State → Bool) : Bool :=
  match r with
  | .next t => p t
  | .fault _ => false
  | .refused _ => false

/-- The state after reset with some cells and bytes of memory set and answers lined up, about to run the bytes at 0100, as
95_test_vectors sets its rows up. -/
def at100 (cells : List (RawCell × Nat)) (bytes : List (Word × Byte)) (answers : List Byte) (code : List Byte) : State :=
  let s := cells.foldl (fun s c => s.rawWrite c.1 c.2) State.reset
  let s := bytes.foldl (fun s b => s.debugWrite b.1 b.2) s
  placeBytes { s with pc := 0x0100, answers := answers } code

/-- Each list of bytes decodes to the instruction beside it with nothing left, and is that instruction's encoding. -/
def readsAll (l : List (List Byte × Instr)) : Bool :=
  l.all fun p =>
    match decode p.1 with
    | .ok (i, rest) => i == p.2 && rest.isEmpty && encode i == p.1 && i.wf
    | .error _ => false

/-! ### Ill-formed terms are refused -/

theorem test_wf_jrCc : (Instr.jrCc .po 0).wf = false := by decide
theorem test_wf_ldRXyd : (Instr.ldRXyd .ix .a 0).wf = false := by decide
theorem test_wf_ldXydR : (Instr.ldXydR .iy .h 0).wf = false := by decide
theorem test_wf_ldHlXyd : (Instr.ldHlXyd .ix .b 0).wf = false := by decide
theorem test_wf_ldXydHl : (Instr.ldXydHl .iy .a 0).wf = false := by decide
theorem test_wf_ldXyhR : (Instr.ldXyhR .ix .hi .h).wf = false := by decide
theorem test_wf_nopEd : (Instr.nopEd 0xA0).wf = false := by decide
theorem test_wf_nopEd_low : (Instr.nopEd 0x40).wf = false := by decide
theorem test_wf_retn : (Instr.retn 1).wf = false := by decide
theorem test_wf_im0 : (Instr.im0 2).wf = false := by decide
theorem test_wf_im1 : (Instr.im1 0).wf = false := by decide
theorem test_wf_im2 : (Instr.im2 6).wf = false := by decide

/-! ### Words -/

/-- Words of the plain region, 00 to 3F (R95). -/
def words_plain_low : List (List Byte × Instr) :=
    ([([0x00], .nop), ([0x08], .exAfAf), ([0x10, 0xFE], .djnz 0xFE), ([0x18, 0x05], .jr 0x05), ([0x30, 0xFB], .jrCc
     .nc 0xFB), ([0x11, 0x34, 0x12], .ldDdNn .de 0x1234), ([0x29], .addHlSs .hl), ([0x12], .ldMemRrA .de), ([0x0A],
     .ldAMemRr .bc), ([0x22, 0xFF, 0xFF], .ldMemNnHl 0xFFFF), ([0x2A, 0x02, 0x80], .ldHlMemNn 0x8002), ([0x32, 0x00,
     0x40], .ldMemNnA 0x4000)] : List (List Byte × Instr)) ++
    ([([0x3A, 0x34, 0x12], .ldAMemNn 0x1234), ([0x33], .incSs .sp), ([0x0B], .decSs .bc), ([0x1C], .incR .e),
     ([0x34], .incMemHl), ([0x2D], .decR .l), ([0x35], .decMemHl), ([0x3E, 0x7F], .ldRN .a 0x7F), ([0x36, 0x80],
     .ldMemHlN 0x80), ([0x07], .rlca), ([0x0F], .rrca), ([0x17], .rla)] : List (List Byte × Instr)) ++
    ([([0x1F], .rra), ([0x27], .daa), ([0x2F], .cpl), ([0x37], .scf), ([0x3F], .ccf)] : List (List Byte × Instr))

theorem test_decode_plain_low : readsAll words_plain_low = true := by decide

/-- Words of the plain region, 40 to BF (R95). -/
def words_plain_middle : List (List Byte × Instr) :=
    ([([0x53], .ldRR .d .e), ([0x6E], .ldRMemHl .l), ([0x77], .ldMemHlR .a), ([0x76], .halt), ([0x80], .addAR .b),
     ([0x86], .addAMemHl), ([0x89], .adcAR .c), ([0x8E], .adcAMemHl), ([0x92], .subR .d), ([0x96], .subMemHl),
     ([0x9B], .sbcAR .e), ([0x9E], .sbcAMemHl)] : List (List Byte × Instr)) ++
    ([([0xA4], .andR .h), ([0xA6], .andMemHl), ([0xAD], .xorR .l), ([0xAE], .xorMemHl), ([0xB7], .orR .a), ([0xB6],
     .orMemHl), ([0xB8], .cpR .b), ([0xBE], .cpMemHl)] : List (List Byte × Instr))

theorem test_decode_plain_middle : readsAll words_plain_middle = true := by decide

/-- Words of the plain region, C0 to FF (R95). -/
def words_plain_high : List (List Byte × Instr) :=
    ([([0xC6, 0x01], .addAN 0x01), ([0xCE, 0x02], .adcAN 0x02), ([0xD6, 0x03], .subN 0x03), ([0xDE, 0x04], .sbcAN
     0x04), ([0xE6, 0x05], .andN 0x05), ([0xEE, 0x06], .xorN 0x06), ([0xF6, 0x07], .orN 0x07), ([0xFE, 0x08], .cpN
     0x08), ([0xE8], .retCc .pe), ([0xD1], .popQq .de), ([0xC9], .ret), ([0xD9], .exx)] : List (List Byte × Instr)) ++
    ([([0xE9], .jpHl), ([0xF9], .ldSpHl), ([0xFA, 0x00, 0x80], .jpCcNn .m 0x8000), ([0xC3, 0x21, 0x43], .jpNn
     0x4321), ([0xD3, 0xFE], .outNA 0xFE), ([0xDB, 0xFE], .inAN 0xFE), ([0xE3], .exSpHl), ([0xEB], .exDeHl),
     ([0xF3], .di), ([0xFB], .ei), ([0xE4, 0xCD, 0xAB], .callCcNn .po 0xABCD), ([0xE5], .pushQq .hl)] : List (List
     Byte × Instr)) ++
    ([([0xCD, 0x00, 0x01], .callNn 0x0100), ([0xFF], .rst 7)] : List (List Byte × Instr))

theorem test_decode_plain_high : readsAll words_plain_high = true := by decide

/-- Words of the CB region (R96). -/
def words_cb : List (List Byte × Instr) :=
    ([([0xCB, 0x00], .rlcR .b), ([0xCB, 0x06], .rlcMemHl), ([0xCB, 0x09], .rrcR .c), ([0xCB, 0x0E], .rrcMemHl),
     ([0xCB, 0x12], .rlR .d), ([0xCB, 0x16], .rlMemHl), ([0xCB, 0x1B], .rrR .e), ([0xCB, 0x1E], .rrMemHl), ([0xCB,
     0x24], .slaR .h), ([0xCB, 0x26], .slaMemHl), ([0xCB, 0x2D], .sraR .l), ([0xCB, 0x2E], .sraMemHl)] : List (List
     Byte × Instr)) ++
    ([([0xCB, 0x37], .sllR .a), ([0xCB, 0x36], .sllMemHl), ([0xCB, 0x38], .srlR .b), ([0xCB, 0x3E], .srlMemHl),
     ([0xCB, 0x5F], .bitBR 3 .a), ([0xCB, 0x76], .bitBMemHl 6), ([0xCB, 0x88], .resBR 1 .b), ([0xCB, 0xBE],
     .resBMemHl 7), ([0xCB, 0xE1], .setBR 4 .c), ([0xCB, 0xD6], .setBMemHl 2)] : List (List Byte × Instr))

theorem test_decode_cb : readsAll words_cb = true := by decide

/-- Words of the ED region, 00 to 7F (R97). -/
def words_ed_loads : List (List Byte × Instr) :=
    ([([0xED, 0x00], .nopEd 0x00), ([0xED, 0x58], .inRC .e), ([0xED, 0x70], .inFC), ([0xED, 0x79], .outCR .a),
     ([0xED, 0x71], .outC0), ([0xED, 0x52], .sbcHlSs .de), ([0xED, 0x7A], .adcHlSs .sp), ([0xED, 0x43, 0x00, 0x70],
     .ldMemNnDd .bc 0x7000), ([0xED, 0x5B, 0x34, 0x12], .ldDdMemNn .de 0x1234), ([0xED, 0x4C], .neg 1), ([0xED,
     0x45], .retn 0), ([0xED, 0x4D], .reti)] : List (List Byte × Instr)) ++
    ([([0xED, 0x66], .im0 4), ([0xED, 0x76], .im1 6), ([0xED, 0x5E], .im2 3), ([0xED, 0x47], .ldIA), ([0xED, 0x4F],
     .ldRA), ([0xED, 0x57], .ldAI), ([0xED, 0x5F], .ldAR), ([0xED, 0x67], .rrd), ([0xED, 0x6F], .rld)] : List (List
     Byte × Instr))

theorem test_decode_ed_loads : readsAll words_ed_loads = true := by decide

/-- Words of the ED region, 80 to FF (R97). -/
def words_ed_block : List (List Byte × Instr) :=
    ([([0xED, 0xA0], .ldi), ([0xED, 0xA1], .cpi), ([0xED, 0xA2], .ini), ([0xED, 0xA3], .outi), ([0xED, 0xA8], .ldd),
     ([0xED, 0xA9], .cpd), ([0xED, 0xAA], .ind), ([0xED, 0xAB], .outd), ([0xED, 0xB0], .ldir), ([0xED, 0xB1],
     .cpir), ([0xED, 0xB2], .inir), ([0xED, 0xB3], .otir)] : List (List Byte × Instr)) ++
    ([([0xED, 0xB8], .lddr), ([0xED, 0xB9], .cpdr), ([0xED, 0xBA], .indr), ([0xED, 0xBB], .otdr)] : List (List Byte
     × Instr))

theorem test_decode_ed_block : readsAll words_ed_block = true := by decide

/-- Words of the DD and FD regions: loads, 16-bit arithmetic and the stack (R98). -/
def words_xy_loads : List (List Byte × Instr) :=
    ([([0xFD, 0x29], .addXyPp .iy .xy), ([0xDD, 0x21, 0x34, 0x12], .ldXyNn .ix 0x1234), ([0xFD, 0x22, 0x00, 0x60],
     .ldMemNnXy .iy 0x6000), ([0xDD, 0x2A, 0x00, 0x60], .ldXyMemNn .ix 0x6000), ([0xFD, 0x23], .incXy .iy), ([0xDD,
     0x2B], .decXy .ix), ([0xDD, 0x24], .incXyh .ix .hi), ([0xFD, 0x2D], .decXyh .iy .lo), ([0xDD, 0x2E, 0x99],
     .ldXyhN .ix .lo 0x99), ([0xDD, 0x34, 0x05], .incXyd .ix 0x05), ([0xFD, 0x35, 0xFE], .decXyd .iy 0xFE), ([0xDD,
     0x36, 0x01, 0x02], .ldXydN .ix 0x01 0x02)] : List (List Byte × Instr)) ++
    ([([0xFD, 0x5E, 0x80], .ldRXyd .iy .e 0x80), ([0xDD, 0x71, 0x7F], .ldXydR .ix .c 0x7F), ([0xFD, 0x6E, 0x03],
     .ldHlXyd .iy .l 0x03), ([0xDD, 0x74, 0x04], .ldXydHl .ix .h 0x04), ([0xFD, 0x7E, 0x00], .ldAXyd .iy 0x00),
     ([0xDD, 0x77, 0xFF], .ldXydA .ix 0xFF), ([0xDD, 0x4D], .ldRXyh .ix .c .lo), ([0xFD, 0x62], .ldXyhR .iy .hi .d),
     ([0xDD, 0x6F], .ldXyhA .ix .lo), ([0xDD, 0xE1], .popXy .ix), ([0xFD, 0xE3], .exSpXy .iy), ([0xDD, 0xE5],
     .pushXy .ix)] : List (List Byte × Instr)) ++
    ([([0xFD, 0xE9], .jpXy .iy), ([0xDD, 0xF9], .ldSpXy .ix)] : List (List Byte × Instr))

theorem test_decode_xy_loads : readsAll words_xy_loads = true := by decide

/-- Words of the DD and FD regions: 8-bit arithmetic (R98). -/
def words_xy_alu : List (List Byte × Instr) :=
    ([([0xDD, 0x84], .addAXyh .ix .hi), ([0xFD, 0x86, 0x01], .addAXyd .iy 0x01), ([0xDD, 0x8D], .adcAXyh .ix .lo),
     ([0xFD, 0x8E, 0x02], .adcAXyd .iy 0x02), ([0xFD, 0x94], .subXyh .iy .hi), ([0xDD, 0x96, 0x03], .subXyd .ix
     0x03), ([0xFD, 0x9D], .sbcAXyh .iy .lo), ([0xDD, 0x9E, 0x04], .sbcAXyd .ix 0x04), ([0xDD, 0xA4], .andXyh .ix
     .hi), ([0xFD, 0xA6, 0x05], .andXyd .iy 0x05), ([0xDD, 0xAD], .xorXyh .ix .lo), ([0xFD, 0xAE, 0x06], .xorXyd .iy
     0x06)] : List (List Byte × Instr)) ++
    ([([0xFD, 0xB4], .orXyh .iy .hi), ([0xDD, 0xB6, 0x07], .orXyd .ix 0x07), ([0xFD, 0xBD], .cpXyh .iy .lo), ([0xDD,
     0xBE, 0x08], .cpXyd .ix 0x08)] : List (List Byte × Instr))

theorem test_decode_xy_alu : readsAll words_xy_alu = true := by decide

/-- Words of the DD/FD+CB region: the displacement before the operation byte (R99). -/
def words_xycb : List (List Byte × Instr) :=
    ([([0xDD, 0xCB, 0x11, 0x06], .rlcXyd .ix 0x11), ([0xFD, 0xCB, 0x12, 0x00], .ldRRlcXyd .iy 0x12 .b), ([0xDD,
     0xCB, 0x13, 0x0E], .rrcXyd .ix 0x13), ([0xFD, 0xCB, 0x14, 0x09], .ldRRrcXyd .iy 0x14 .c), ([0xDD, 0xCB, 0x15,
     0x16], .rlXyd .ix 0x15), ([0xFD, 0xCB, 0x16, 0x12], .ldRRlXyd .iy 0x16 .d), ([0xDD, 0xCB, 0x17, 0x1E], .rrXyd
     .ix 0x17), ([0xFD, 0xCB, 0x18, 0x1B], .ldRRrXyd .iy 0x18 .e), ([0xDD, 0xCB, 0x19, 0x26], .slaXyd .ix 0x19),
     ([0xFD, 0xCB, 0x1A, 0x24], .ldRSlaXyd .iy 0x1A .h), ([0xDD, 0xCB, 0x1B, 0x2E], .sraXyd .ix 0x1B), ([0xFD, 0xCB,
     0x1C, 0x2D], .ldRSraXyd .iy 0x1C .l)] : List (List Byte × Instr)) ++
    ([([0xDD, 0xCB, 0x1D, 0x36], .sllXyd .ix 0x1D), ([0xFD, 0xCB, 0x1E, 0x37], .ldRSllXyd .iy 0x1E .a), ([0xDD,
     0xCB, 0x1F, 0x3E], .srlXyd .ix 0x1F), ([0xFD, 0xCB, 0x20, 0x38], .ldRSrlXyd .iy 0x20 .b), ([0xDD, 0xCB, 0x21,
     0x4E], .bitBXyd .ix 0x21 1 6), ([0xFD, 0xCB, 0x22, 0xB6], .resBXyd .iy 0x22 6), ([0xDD, 0xCB, 0x23, 0x91],
     .ldRResBXyd .ix 0x23 2 .c), ([0xFD, 0xCB, 0x24, 0xDE], .setBXyd .iy 0x24 3), ([0xDD, 0xCB, 0x25, 0xEA],
     .ldRSetBXyd .ix 0x25 5 .d)] : List (List Byte × Instr))

theorem test_decode_xycb : readsAll words_xycb = true := by decide

/-- The byte that falls back leaves the bytes after it (R89). -/
theorem test_decode_xyPrefix : decode [0xDD, 0x00] = .ok (.xyPrefix .ix, [0x00]) ∧ decode [0xFD, 0xDD] = .ok (.xyPrefix .iy, [0xDD]) :=
  ⟨rfl, rfl⟩

/-- Bytes that end inside an instruction. -/
theorem test_decode_short : decode [0xDD, 0xCB, 0x01] = .error .truncated := rfl

/-- The table's numbering: the first byte is the low byte of the number. -/
theorem test_decodeTableWord : decodeTableWord 24 0x12343A = some (.ldAMemNn 0x1234) ∧ decodeTableWord 16 0x47CB = some (.bitBR 0 .a)
    ∧ decodeTableWord 8 0xDD = some (.xyPrefix .ix) := by decide

/-- The first step after reset runs the word placed (LD A,n). -/
theorem test_withFetchWord : ends (step (State.reset.withFetchWord 16 0x5A3E)) (fun t => t.main.a == 0x5A && t.pc == 2) = true := by
  decide

/-! ### Single steps (95_test_vectors) -/

/-- V1.1, R111. -/
theorem test_ldRR : ends (step (at100 [(.reg .c, 0x5A)] [] [] [0x41]))
    (fun t => t.rawRead (.reg .b) == 0x5A && t.rawRead .pc == 0x0101 && t.t == 4) = true := by decide

/-- V1.3, R113. -/
theorem test_ldRMemHl : ends (step (at100 [(.reg .h, 0x40), (.reg .l, 0x00)] [(0x4000, 0x42)] [] [0x7E]))
    (fun t => t.rawRead (.reg .a) == 0x42 && t.rawRead .pc == 0x0101 && t.t == 7) = true := by decide

/-- V1.5, R113. -/
theorem test_ldHlXyd_real_h : ends (step (at100 [(.half .ix .hi, 0x40), (.half .ix .lo, 0x00)] [(0x4002, 0x77)] []
    [0xDD, 0x66, 0x02]))
    (fun t => t.rawRead (.reg .h) == 0x77 && t.rawRead .pc == 0x0103 && t.t == 19) = true := by decide

/-- V1.6, R115. -/
theorem test_ldXydN : ends (step (at100 [(.half .iy .hi, 0x40), (.half .iy .lo, 0x00)] [] [] [0xFD, 0x36, 0x05,
    0xAB]))
    (fun t => t.peek 0x4005 == 0xAB && t.rawRead .pc == 0x0104 && t.t == 19) = true := by decide

/-- V1.7, R115. -/
theorem test_ldXydN_wraps : ends (step (at100 [(.half .ix .hi, 0xFF), (.half .ix .lo, 0xFF)] [] [] [0xDD, 0x36, 0x01,
    0x12]))
    (fun t => t.peek 0x0000 == 0x12 && t.rawRead .pc == 0x0104 && t.t == 19) = true := by decide

/-- V1.8, R117. -/
theorem test_ldMemRrA : ends (step (at100 [(.reg .a, 0x11), (.reg .b, 0x40), (.reg .c, 0x00)] [] [] [0x02]))
    (fun t => t.peek 0x4000 == 0x11 && t.rawRead .pc == 0x0101 && t.t == 7) = true := by decide

/-- V1.9, R118. -/
theorem test_ldAMemNn : ends (step (at100 [] [(0x1234, 0x9C)] [] [0x3A, 0x34, 0x12]))
    (fun t => t.rawRead (.reg .a) == 0x9C && t.rawRead .pc == 0x0103 && t.t == 13) = true := by decide

/-- V1.11, R123. -/
theorem test_ldMemNnHl_wraps : ends (step (at100 [(.reg .h, 0xBE), (.reg .l, 0xEF)] [] [] [0x22, 0xFF, 0xFF]))
    (fun t => t.peek 0x0000 == 0xBE && t.peek 0xFFFF == 0xEF && t.t == 16) = true := by decide

/-- V1.12, R124. -/
theorem test_ldDdMemNn : ends (step (at100 [] [(0x4000, 0x01), (0x4001, 0x02)] [] [0xED, 0x4B, 0x00, 0x40]))
    (fun t => t.rawRead (.reg .b) == 0x02 && t.rawRead (.reg .c) == 0x01 && t.t == 20) = true := by decide

/-- V1.13, R125. -/
theorem test_ldMemNnDd : ends (step (at100 [(.sp, 0x8765)] [] [] [0xED, 0x73, 0x00, 0x40]))
    (fun t => t.peek 0x4000 == 0x65 && t.peek 0x4001 == 0x87 && t.t == 20) = true := by decide

/-- V1.14, R126. -/
theorem test_pushQq : ends (step (at100 [(.reg .a, 0x12), (.f, 0xD7), (.sp, 0x8000)] [] [] [0xF5]))
    (fun t => t.peek 0x7FFE == 0xD7 && t.peek 0x7FFF == 0x12 && t.rawRead .sp == 0x7FFE && t.t == 11) = true := by
      decide

/-- V1.15, R127. -/
theorem test_popXy : ends (step (at100 [(.sp, 0x7FFE)] [(0x7FFE, 0x34), (0x7FFF, 0x12)] [] [0xDD, 0xE1]))
    (fun t => t.rawRead (.half .ix .hi) == 0x12 && t.rawRead (.half .ix .lo) == 0x34 && t.rawRead .sp == 0x8000 && t.t
      == 14) = true := by decide

/-- V1.16, R127. -/
theorem test_popQq_wraps : ends (step (at100 [(.sp, 0xFFFF)] [(0xFFFF, 0x34), (0x0000, 0x12)] [] [0xC1]))
    (fun t => t.rawRead (.reg .b) == 0x12 && t.rawRead (.reg .c) == 0x34 && t.rawRead .sp == 0x0001 && t.t == 10) =
      true := by decide

/-- V1.17, R121. -/
theorem test_exSpHl : ends (step (at100 [(.reg .h, 0x12), (.reg .l, 0x34), (.sp, 0x8000)] [(0x8000, 0xCD), (0x8001,
    0xAB)] [] [0xE3]))
    (fun t => t.peek 0x8000 == 0x34 && t.peek 0x8001 == 0x12 && t.rawRead (.reg .h) == 0xAB && t.t == 19) = true := by
      decide

/-- V1.18, R128. -/
theorem test_ldSpXy : ends (step (at100 [(.half .iy .hi, 0xC0), (.half .iy .lo, 0x00)] [] [] [0xFD, 0xF9]))
    (fun t => t.rawRead .sp == 0xC000 && t.rawRead .pc == 0x0102 && t.t == 10) = true := by decide

/-- V1.19, R129. -/
theorem test_exDeHl : ends (step (at100 [(.reg .d, 0x11), (.reg .e, 0x11), (.reg .h, 0x22), (.reg .l, 0x22)] [] []
    [0xEB]))
    (fun t => t.rawRead (.reg .d) == 0x22 && t.rawRead (.reg .e) == 0x22 && t.rawRead (.reg .h) == 0x11 && t.t == 4) =
      true := by decide

/-- V1.21, R130. -/
theorem test_exAfAf : ends (step (at100 [(.reg .a, 0x01), (.f, 0x02), (.shadowReg .a, 0x03), (.shadowF, 0x04)] [] []
    [0x08]))
    (fun t => t.rawRead (.reg .a) == 0x03 && t.rawRead .f == 0x04 && t.rawRead (.shadowReg .a) == 0x01 && t.t == 4) =
      true := by decide

/-- V1.24, R111. -/
theorem test_ldRXyh : ends (step (at100 [(.half .ix .hi, 0x80)] [] [] [0xDD, 0x6C]))
    (fun t => t.rawRead (.half .ix .lo) == 0x80 && t.rawRead .pc == 0x0102 && t.t == 8) = true := by decide

/-- V2.2, R151. -/
theorem test_addAN_overflow : ends (step (at100 [(.reg .a, 0x7F)] [] [] [0xC6, 0x01]))
    (fun t => t.rawRead (.reg .a) == 0x80 && t.rawRead .f == 0x94 && t.t == 7) = true := by decide

/-- V2.4, R152. -/
theorem test_adcAR : ends (step (at100 [(.reg .a, 0x0E), (.reg .b, 0x01), (.f, 0x01)] [] [] [0x88]))
    (fun t => t.rawRead (.reg .a) == 0x10 && t.rawRead .f == 0x10 && t.t == 4) = true := by decide

/-- V2.8, R154. -/
theorem test_sbcAN : ends (step (at100 [(.reg .a, 0x00), (.f, 0x01)] [] [] [0xDE, 0x00]))
    (fun t => t.rawRead (.reg .a) == 0xFF && t.rawRead .f == 0xBB && t.t == 7) = true := by decide

/-- V2.9, R155. -/
theorem test_andN : ends (step (at100 [(.reg .a, 0x5A)] [] [] [0xE6, 0x0F]))
    (fun t => t.rawRead (.reg .a) == 0x0A && t.rawRead .f == 0x1C && t.t == 7) = true := by decide

/-- V2.10, R156. -/
theorem test_xorR : ends (step (at100 [(.reg .a, 0x77), (.f, 0xFF)] [] [] [0xAF]))
    (fun t => t.rawRead (.reg .a) == 0x00 && t.rawRead .f == 0x44 && t.t == 4) = true := by decide

/-- V2.11, R157. -/
theorem test_orMemHl : ends (step (at100 [(.reg .a, 0x00), (.reg .h, 0x40), (.reg .l, 0x00)] [(0x4000, 0x28)] []
    [0xB6]))
    (fun t => t.rawRead (.reg .a) == 0x28 && t.rawRead .f == 0x2C && t.t == 7) = true := by decide

/-- V2.12, R158. -/
theorem test_cpN : ends (step (at100 [(.reg .a, 0x28)] [] [] [0xFE, 0x28]))
    (fun t => t.rawRead .f == 0x6A && t.rawRead .pc == 0x0102 && t.t == 7) = true := by decide

/-- V2.14, R151. -/
theorem test_addAXyh : ends (step (at100 [(.reg .a, 0x10), (.half .ix .lo, 0x20)] [] [] [0xDD, 0x85]))
    (fun t => t.rawRead (.reg .a) == 0x30 && t.rawRead .f == 0x20 && t.t == 8) = true := by decide

/-- V2.15, R153. -/
theorem test_subXyd : ends (step (at100 [(.reg .a, 0x10), (.half .iy .hi, 0x40), (.half .iy .lo, 0x00)] [(0x4003,
    0x11)] [] [0xFD, 0x96, 0x03]))
    (fun t => t.rawRead (.reg .a) == 0xFF && t.rawRead .f == 0xBB && t.t == 19) = true := by decide

/-- V2.16, R159. -/
theorem test_incR : ends (step (at100 [(.reg .a, 0x7F), (.f, 0x01)] [] [] [0x3C]))
    (fun t => t.rawRead (.reg .a) == 0x80 && t.rawRead .f == 0x95 && t.t == 4) = true := by decide

/-- V2.17, R159. -/
theorem test_incMemHl : ends (step (at100 [(.reg .h, 0x40), (.reg .l, 0x00)] [(0x4000, 0xFF)] [] [0x34]))
    (fun t => t.peek 0x4000 == 0x00 && t.rawRead .f == 0x50 && t.t == 11) = true := by decide

/-- V2.18, R160. -/
theorem test_decR : ends (step (at100 [(.reg .b, 0x80)] [] [] [0x05]))
    (fun t => t.rawRead .f == 0x3E && t.rawRead (.reg .b) == 0x7F && t.t == 4) = true := by decide

/-- V2.20, R160. -/
theorem test_decXyd : ends (step (at100 [(.half .ix .hi, 0x40), (.half .ix .lo, 0x02)] [(0x4000, 0x01)] [] [0xDD,
    0x35, 0xFE]))
    (fun t => t.peek 0x4000 == 0x00 && t.rawRead .f == 0x42 && t.t == 23) = true := by decide

/-- V2.22, R161. -/
theorem test_daa_add : ends (step (at100 [(.reg .a, 0x9A), (.f, 0x00)] [] [] [0x27]))
    (fun t => t.rawRead (.reg .a) == 0x00 && t.rawRead .f == 0x55 && t.t == 4) = true := by decide

/-- V2.24, R161. -/
theorem test_daa_sub : ends (step (at100 [(.reg .a, 0x0F), (.f, 0x12)] [] [] [0x27]))
    (fun t => t.rawRead (.reg .a) == 0x09 && t.rawRead .f == 0x0E && t.t == 4) = true := by decide

/-- V2.27, R162. -/
theorem test_cpl : ends (step (at100 [(.reg .a, 0x5A), (.f, 0x00)] [] [] [0x2F]))
    (fun t => t.rawRead (.reg .a) == 0xA5 && t.rawRead .f == 0x32 && t.t == 4) = true := by decide

/-- V2.28, R163. -/
theorem test_neg : ends (step (at100 [(.reg .a, 0x80)] [] [] [0xED, 0x44]))
    (fun t => t.rawRead .f == 0x87 && t.rawRead .pc == 0x0102 && t.t == 8) = true := by decide

/-- V2.30, R164. -/
theorem test_ccf : ends (step (at100 [(.reg .a, 0x28), (.f, 0x01)] [] [] [0x3F]))
    (fun t => t.rawRead .f == 0x38 && t.rawRead .pc == 0x0101 && t.t == 4) = true := by decide

/-- V2.31, R165. -/
theorem test_scf : ends (step (at100 [(.reg .a, 0x00), (.f, 0xD6)] [] [] [0x37]))
    (fun t => t.rawRead .f == 0xC5 && t.rawRead .pc == 0x0101 && t.t == 4) = true := by decide

/-- V3.1, R171. -/
theorem test_addHlSs : ends (step (at100 [(.reg .h, 0x0F), (.reg .l, 0xFF), (.reg .b, 0x00), (.reg .c, 0x01), (.f,
    0xC4)] [] [] [0x09]))
    (fun t => t.rawRead .f == 0xD4 && t.rawRead (.reg .h) == 0x10 && t.rawRead (.reg .l) == 0x00 && t.t == 11) = true
      := by decide

/-- V3.4, R171. -/
theorem test_addXyPp : ends (step (at100 [(.half .iy .hi, 0x40), (.half .iy .lo, 0x00)] [] [] [0xFD, 0x29]))
    (fun t => t.rawRead (.half .iy .hi) == 0x80 && t.rawRead .pc == 0x0102 && t.t == 15) = true := by decide

/-- V3.5, R172. -/
theorem test_adcHlSs : ends (step (at100 [(.reg .h, 0x7F), (.reg .l, 0xFF), (.reg .d, 0x00), (.reg .e, 0x00), (.f,
    0x01)] [] [] [0xED, 0x5A]))
    (fun t => t.rawRead .f == 0x94 && t.rawRead (.reg .h) == 0x80 && t.rawRead (.reg .l) == 0x00 && t.t == 15) = true
      := by decide

/-- V3.8, R173. -/
theorem test_sbcHlSs : ends (step (at100 [(.reg .h, 0x00), (.reg .l, 0x00), (.reg .b, 0x00), (.reg .c, 0x00), (.f,
    0x01)] [] [] [0xED, 0x42]))
    (fun t => t.rawRead .f == 0xBB && t.rawRead (.reg .h) == 0xFF && t.rawRead (.reg .l) == 0xFF && t.t == 15) = true
      := by decide

/-- V3.10, R174. -/
theorem test_incSs : ends (step (at100 [(.sp, 0xFFFF), (.f, 0xFF)] [] [] [0x33]))
    (fun t => t.rawRead .sp == 0x0000 && t.rawRead .pc == 0x0101 && t.t == 6) = true := by decide

/-- V3.12, R174. -/
theorem test_incXy : ends (step (at100 [(.half .ix .hi, 0x00), (.half .ix .lo, 0xFF)] [] [] [0xDD, 0x23]))
    (fun t => t.rawRead (.half .ix .hi) == 0x01 && t.rawRead (.half .ix .lo) == 0x00 && t.t == 10) = true := by decide

/-- V4.1, R181. -/
theorem test_rlca : ends (step (at100 [(.reg .a, 0x81), (.f, 0xC4)] [] [] [0x07]))
    (fun t => t.rawRead (.reg .a) == 0x03 && t.rawRead .f == 0xC5 && t.t == 4) = true := by decide

/-- V4.2, R182. -/
theorem test_rrca : ends (step (at100 [(.reg .a, 0x01)] [] [] [0x0F]))
    (fun t => t.rawRead (.reg .a) == 0x80 && t.rawRead .f == 0x01 && t.t == 4) = true := by decide

/-- V4.3, R183. -/
theorem test_rla : ends (step (at100 [(.reg .a, 0x80), (.f, 0x00)] [] [] [0x17]))
    (fun t => t.rawRead (.reg .a) == 0x00 && t.rawRead .f == 0x01 && t.t == 4) = true := by decide

/-- V4.4, R184. -/
theorem test_rra : ends (step (at100 [(.reg .a, 0x01), (.f, 0x01)] [] [] [0x1F]))
    (fun t => t.rawRead (.reg .a) == 0x80 && t.rawRead .pc == 0x0101 && t.t == 4) = true := by decide

/-- V4.6, R187. -/
theorem test_rrcMemHl : ends (step (at100 [(.reg .h, 0x40), (.reg .l, 0x00)] [(0x4000, 0x01)] [] [0xCB, 0x0E]))
    (fun t => t.peek 0x4000 == 0x80 && t.rawRead .f == 0x81 && t.t == 15) = true := by decide

/-- V4.7, R188. -/
theorem test_rlR : ends (step (at100 [(.reg .c, 0x80), (.f, 0x00)] [] [] [0xCB, 0x11]))
    (fun t => t.rawRead .f == 0x45 && t.rawRead (.reg .c) == 0x00 && t.t == 8) = true := by decide

/-- V4.9, R190. -/
theorem test_slaR : ends (step (at100 [(.reg .e, 0xC0)] [] [] [0xCB, 0x23]))
    (fun t => t.rawRead .f == 0x81 && t.rawRead (.reg .e) == 0x80 && t.t == 8) = true := by decide

/-- V4.10, R191. -/
theorem test_sraR : ends (step (at100 [(.reg .h, 0x81)] [] [] [0xCB, 0x2C]))
    (fun t => t.rawRead .f == 0x85 && t.rawRead (.reg .h) == 0xC0 && t.t == 8) = true := by decide

/-- V4.11, R192. -/
theorem test_sllR : ends (step (at100 [(.reg .l, 0x80)] [] [] [0xCB, 0x35]))
    (fun t => t.rawRead .f == 0x01 && t.rawRead (.reg .l) == 0x01 && t.t == 8) = true := by decide

/-- V4.12, R193. -/
theorem test_srlR : ends (step (at100 [(.reg .a, 0x01)] [] [] [0xCB, 0x3F]))
    (fun t => t.rawRead (.reg .a) == 0x00 && t.rawRead .f == 0x45 && t.t == 8) = true := by decide

/-- V4.14, R194. -/
theorem test_bitBR : ends (step (at100 [(.reg .a, 0x28)] [] [] [0xCB, 0x47]))
    (fun t => t.rawRead .f == 0x7C && t.rawRead .pc == 0x0102 && t.t == 8) = true := by decide

/-- V4.16, R195. -/
theorem test_bitBXyd : ends (step (at100 [(.half .ix .hi, 0x28), (.half .ix .lo, 0x00)] [(0x2800, 0x00)] [] [0xDD,
    0xCB, 0x00, 0x5E]))
    (fun t => t.scr == 0x2800 && t.rawRead .f == 0x7C && t.t == 20) = true := by decide

/-- V4.17, R196. -/
theorem test_resBMemHl : ends (step (at100 [(.reg .h, 0x40), (.reg .l, 0x00)] [(0x4000, 0xFF)] [] [0xCB, 0x86]))
    (fun t => t.peek 0x4000 == 0xFE && t.rawRead .pc == 0x0102 && t.t == 15) = true := by decide

/-- V4.19, R197. -/
theorem test_setBXyd : ends (step (at100 [(.half .iy .hi, 0x40), (.half .iy .lo, 0x01)] [] [] [0xFD, 0xCB, 0xFF,
    0xCE]))
    (fun t => t.peek 0x4000 == 0x02 && t.scr == 0x4000 && t.t == 23) = true := by decide

/-- V4.20, R198. -/
theorem test_ldRRlcXyd : ends (step (at100 [(.half .ix .hi, 0x80), (.half .ix .lo, 0x00)] [(0x8003, 0x81)] [] [0xDD,
    0xCB, 0x03, 0x00]))
    (fun t => t.peek 0x8003 == 0x03 && t.scr == 0x8003 && t.rawRead .f == 0x05 && t.t == 23) = true := by decide

/-- V4.21, R198. -/
theorem test_ldRResBXyd : ends (step (at100 [(.half .ix .hi, 0x40), (.half .ix .lo, 0x00), (.reg .h, 0x00)] [(0x4000,
    0xFF)] [] [0xDD, 0xCB, 0x00, 0x84]))
    (fun t => t.peek 0x4000 == 0xFE && t.scr == 0x4000 && t.rawRead (.reg .h) == 0xFE && t.t == 23) = true := by
      decide

/-- V4.22, R199. -/
theorem test_rld : ends (step (at100 [(.reg .a, 0x7A), (.reg .h, 0x40), (.reg .l, 0x00)] [(0x4000, 0x31)] [] [0xED,
    0x6F]))
    (fun t => t.peek 0x4000 == 0x1A && t.rawRead (.reg .a) == 0x73 && t.rawRead .f == 0x20 && t.t == 18) = true := by
      decide

/-- V4.23, R200. -/
theorem test_rrd : ends (step (at100 [(.reg .a, 0x84), (.reg .h, 0x40), (.reg .l, 0x00)] [(0x4000, 0x20)] [] [0xED,
    0x67]))
    (fun t => t.peek 0x4000 == 0x42 && t.rawRead (.reg .a) == 0x80 && t.rawRead .f == 0x80 && t.t == 18) = true := by
      decide

/-- V5.2, R212. -/
theorem test_jpCcNn_not : ends (step (at100 [(.f, 0x00)] [] [] [0xCA, 0x00, 0x80]))
    (fun t => t.rawRead .pc == 0x0103 && t.t == 10) = true := by decide

/-- V5.4, R213. -/
theorem test_jr : ends (step (at100 [] [] [] [0x18, 0xFE]))
    (fun t => t.t == 12) = true := by decide

/-- V5.6, R214. -/
theorem test_jrCc : ends (step (at100 [(.f, 0x00)] [] [] [0x20, 0x10]))
    (fun t => t.rawRead .pc == 0x0112 && t.t == 12) = true := by decide

/-- V5.10, R215. -/
theorem test_djnz_wraps : ends (step (at100 [(.reg .b, 0x00)] [] [] [0x10, 0xFE]))
    (fun t => t.rawRead (.reg .b) == 0xFF && t.t == 13) = true := by decide

/-- V5.12, R216. -/
theorem test_jpXy : ends (step (at100 [(.half .ix .hi, 0x43), (.half .ix .lo, 0x21)] [] [] [0xDD, 0xE9]))
    (fun t => t.rawRead .pc == 0x4321 && t.t == 8) = true := by decide

/-- V5.13, R217. -/
theorem test_callNn_wraps : ends (step (at100 [(.sp, 0x0000)] [] [] [0xCD, 0x00, 0x80]))
    (fun t => t.peek 0xFFFE == 0x03 && t.peek 0xFFFF == 0x01 && t.rawRead .sp == 0xFFFE && t.t == 17) = true := by
      decide

/-- V5.14, R218. -/
theorem test_callCcNn_not : ends (step (at100 [(.f, 0x01), (.sp, 0x8000)] [] [] [0xD4, 0x00, 0x80]))
    (fun t => t.rawRead .pc == 0x0103 && t.t == 10) = true := by decide

/-- V5.15, R219. -/
theorem test_ret : ends (step (at100 [(.sp, 0x7FFE)] [(0x7FFE, 0x03), (0x7FFF, 0x01)] [] [0xC9]))
    (fun t => t.rawRead .sp == 0x8000 && t.rawRead .pc == 0x0103 && t.t == 10) = true := by decide

/-- V5.16, R220. -/
theorem test_retCc : ends (step (at100 [(.f, 0x80), (.sp, 0x7FFE)] [(0x7FFE, 0x00), (0x7FFF, 0x90)] [] [0xF8]))
    (fun t => t.rawRead .sp == 0x8000 && t.rawRead .pc == 0x9000 && t.t == 11) = true := by decide

/-- V5.18, R221. -/
theorem test_retn : ends (step (at100 [(.iff2, 0x01), (.sp, 0x7FFE)] [(0x7FFE, 0x00), (0x7FFF, 0x90)] [] [0xED,
    0x45]))
    (fun t => t.rawRead .iff1 == 0x01 && t.rawRead .sp == 0x8000 && t.t == 14) = true := by decide

/-- V5.20, R223. -/
theorem test_rst : ends (step (at100 [(.sp, 0x8000)] [] [] [0xFF]))
    (fun t => t.peek 0x7FFE == 0x01 && t.peek 0x7FFF == 0x01 && t.rawRead .sp == 0x7FFE && t.t == 11) = true := by
      decide

/-- V6.1, R233. -/
theorem test_ldi : ends (step (at100 [(.reg .h, 0x40), (.reg .l, 0x00), (.reg .d, 0x50), (.reg .e, 0x00), (.reg .b,
    0x00), (.reg .c, 0x02), (.reg .a, 0x10), (.f, 0x00)] [(0x4000, 0x3C)] [] [0xED, 0xA0]))
    (fun t => t.peek 0x5000 == 0x3C && t.rawRead .f == 0x0C && t.rawRead (.reg .c) == 0x01 && t.t == 16) = true := by
      decide

/-- V6.3, R234. -/
theorem test_ldd : ends (step (at100 [(.reg .h, 0x40), (.reg .l, 0x00), (.reg .d, 0x50), (.reg .e, 0x00), (.reg .b,
    0x00), (.reg .c, 0x01), (.reg .a, 0x00), (.f, 0xC1)] [(0x4000, 0x22)] [] [0xED, 0xA8]))
    (fun t => t.peek 0x5000 == 0x22 && t.rawRead .f == 0xE1 && t.rawRead (.reg .c) == 0x00 && t.t == 16) = true := by
      decide

/-- V6.5, R235. -/
theorem test_ldir_repeats : ends (step (at100 [(.reg .h, 0x40), (.reg .l, 0x00), (.reg .d, 0x50), (.reg .e, 0x00),
    (.reg .b, 0x00), (.reg .c, 0x00)] [] [] [0xED, 0xB0]))
    (fun t => t.rawRead .f == 0x04 && t.rawRead (.reg .b) == 0xFF && t.rawRead (.reg .c) == 0xFF && t.t == 21) = true
      := by decide

/-- V6.8, R237. -/
theorem test_cpi : ends (step (at100 [(.reg .h, 0x40), (.reg .l, 0x00), (.reg .b, 0x00), (.reg .c, 0x05), (.reg .a,
    0x10)] [(0x4000, 0x01)] [] [0xED, 0xA1]))
    (fun t => t.rawRead .f == 0x3E && t.rawRead (.reg .c) == 0x04 && t.rawRead (.reg .l) == 0x01 && t.t == 16) = true
      := by decide

/-- V6.9, R238. -/
theorem test_cpd : ends (step (at100 [(.reg .h, 0x40), (.reg .l, 0x00), (.reg .b, 0x00), (.reg .c, 0x02), (.reg .a,
    0x80)] [(0x4000, 0x7F)] [] [0xED, 0xA9]))
    (fun t => t.rawRead .f == 0x16 && t.rawRead (.reg .c) == 0x01 && t.rawRead (.reg .h) == 0x3F && t.t == 16) = true
      := by decide

/-- V6.12, R241. -/
theorem test_ini : ends (step (at100 [(.reg .h, 0x40), (.reg .l, 0x00), (.reg .b, 0x02), (.reg .c, 0x10)] [] [0x80]
    [0xED, 0xA2]))
    (fun t => t.peek 0x4000 == 0x80 && t.events == [.portIn 0x0210 0x80] && t.rawRead .f == 0x06 && t.t == 16) = true
      := by decide

/-- V6.13, R242. -/
theorem test_ind : ends (step (at100 [(.reg .h, 0x40), (.reg .l, 0x00), (.reg .b, 0x01), (.reg .c, 0x10)] [] [0xF5]
    [0xED, 0xAA]))
    (fun t => t.peek 0x4000 == 0xF5 && t.events == [.portIn 0x0110 0xF5] && t.rawRead .f == 0x53 && t.t == 16) = true
      := by decide

/-- V6.16, R245. -/
theorem test_outi : ends (step (at100 [(.reg .h, 0x40), (.reg .l, 0xFF), (.reg .b, 0x01), (.reg .c, 0x98)] [(0x40FF,
    0x81)] [] [0xED, 0xA3]))
    (fun t => t.events == [.portOut 0x0098 0x81] && t.rawRead .f == 0x42 && t.rawRead (.reg .b) == 0x00 && t.t == 16)
      = true := by decide

/-- V6.17, R246. -/
theorem test_outd : ends (step (at100 [(.reg .h, 0x40), (.reg .l, 0x00), (.reg .b, 0x03), (.reg .c, 0x98)] [(0x4000,
    0x07)] [] [0xED, 0xAB]))
    (fun t => t.events == [.portOut 0x0298 0x07] && t.rawRead .f == 0x11 && t.rawRead (.reg .b) == 0x02 && t.t == 16)
      = true := by decide

/-- V7.1, R250. -/
theorem test_inAN : ends (step (at100 [(.reg .a, 0x7F), (.f, 0xFF)] [] [0xBF] [0xDB, 0xFE]))
    (fun t => t.events == [.portIn 0x7FFE 0xBF] && t.rawRead (.reg .a) == 0xBF && t.t == 11) = true := by decide

/-- V7.2, R251. -/
theorem test_inRC : ends (step (at100 [(.reg .b, 0x12), (.reg .c, 0xFE), (.f, 0x01)] [] [0x00] [0xED, 0x40]))
    (fun t => t.events == [.portIn 0x12FE 0x00] && t.rawRead .f == 0x45 && t.rawRead (.reg .b) == 0x00 && t.t == 12) =
      true := by decide

/-- V7.3, R252. -/
theorem test_inFC : ends (step (at100 [(.reg .b, 0x00), (.reg .c, 0xFE), (.f, 0x01)] [] [0x80] [0xED, 0x70]))
    (fun t => t.events == [.portIn 0x00FE 0x80] && t.rawRead .f == 0x81 && t.t == 12) = true := by decide

/-- V7.4, R253. -/
theorem test_outNA : ends (step (at100 [(.reg .a, 0x07)] [] [] [0xD3, 0xFE]))
    (fun t => t.events == [.portOut 0x07FE 0x07] && t.rawRead .pc == 0x0102 && t.t == 11) = true := by decide

/-- V7.5, R254. -/
theorem test_outCR : ends (step (at100 [(.reg .b, 0x7F), (.reg .c, 0xFD), (.reg .h, 0x10)] [] [] [0xED, 0x61]))
    (fun t => t.events == [.portOut 0x7FFD 0x10] && t.rawRead .pc == 0x0102 && t.t == 12) = true := by decide

/-- V7.6, R255. -/
theorem test_outC0 : ends (step (at100 [(.reg .b, 0x00), (.reg .c, 0xFE)] [] [] [0xED, 0x71]))
    (fun t => t.events == [.portOut 0x00FE 0x00] && t.rawRead .pc == 0x0102 && t.t == 12) = true := by decide

/-- V7.8, R257. -/
theorem test_di : ends (step (at100 [(.iff1, 0x01), (.iff2, 0x01)] [] [] [0xF3]))
    (fun t => t.rawRead .iff1 == 0x00 && t.rawRead .iff2 == 0x00 && t.t == 4) = true := by decide

/-- V7.9, R258. -/
theorem test_ei : ends (step (at100 [] [] [] [0xFB]))
    (fun t => t.eiDelay && t.rawRead .iff1 == 0x01 && t.rawRead .iff2 == 0x01 && t.t == 4) = true := by decide

/-- V7.10, R260. -/
theorem test_halt : ends (step (at100 [] [] [] [0x76]))
    (fun t => t.rawRead .halted == 0x01 && t.t == 4) = true := by decide

/-- V7.14, R262. -/
theorem test_nopEd : ends (step (at100 [] [] [] [0xED, 0xDD]))
    (fun t => t.rawRead .pc == 0x0102 && t.t == 8) = true := by decide

/-- V7.16, R265. -/
theorem test_im2 : ends (step (at100 [] [] [] [0xED, 0x5E]))
    (fun t => t.rawRead .im == 0x02 && t.rawRead .pc == 0x0102 && t.t == 8) = true := by decide

/-- V7.18, R266. -/
theorem test_ldIA : ends (step (at100 [(.reg .a, 0x3F)] [] [] [0xED, 0x47]))
    (fun t => t.rawRead .i == 0x3F && t.rawRead .pc == 0x0102 && t.t == 9) = true := by decide

/-- V7.19, R267. -/
theorem test_ldRA : ends (step (at100 [(.reg .a, 0x80)] [] [] [0xED, 0x4F]))
    (fun t => t.rawRead .pc == 0x0102 && t.rByte == 0x80 && t.t == 9) = true := by decide

/-- V7.20, R268. -/
theorem test_ldAI : ends (step (at100 [(.i, 0x80), (.iff2, 0x01), (.f, 0x01)] [] [] [0xED, 0x57]))
    (fun t => t.rawRead (.reg .a) == 0x80 && t.rawRead .f == 0x85 && t.t == 9) = true := by decide

/-- V7.21, R269. -/
theorem test_ldAR : ends (step (at100 [(.iff2, 0x00), (.r, 0xFE)] [] [] [0xED, 0x5F]))
    (fun t => t.rawRead (.reg .a) == 0x80 && t.rawRead .f == 0x80 && t.rByte == 0x80 && t.t == 9) = true := by decide

/-- V8.2, R90. -/
theorem test_last_prefix_wins : ends (step (at100 [] [] [] [0xDD, 0xFD, 0x21, 0x34, 0x12]))
    (fun t => t.rawRead (.half .iy .hi) == 0x12 && t.rawRead (.half .iy .lo) == 0x34 && t.t == 18) = true := by decide

/-- V8.4, R258. -/
theorem test_ei_after_prefix : ends (step (at100 [] [] [] [0xDD, 0xFB]))
    (fun t => t.eiDelay && t.rawRead .iff1 == 0x01 && t.rawRead .iff2 == 0x01 && t.t == 8) = true := by decide

/-! ### Interrupts and the host's calls (95_test_vectors V9) -/

/-- PC 1234, SP 8000, interrupts on, in a mode. -/
def irq (im : Nat) : State := { State.reset with pc := 0x1234, sp := 0x8000, iff1 := true, iff2 := true, im := im }

/-- V9.1, R283. -/
theorem test_interrupt_im1 :
    (match interrupt (irq 1) with
    | .accepted t => t.pc == 0x0038 && t.sp == 0x7FFE && t.peek 0x7FFE == 0x34 && t.peek 0x7FFF == 0x12 && !t.iff2 && t.t == 13
    | _ => false) = true := by decide

/-- V9.4, R284: the vector's bytes at FFFF and 0000. -/
theorem test_interrupt_im2_wraps :
    (match interrupt { irq 2 with i := 0xFF, mem := [(0x0000, 0x12), (0xFFFF, 0x34)] } with
    | .accepted t => t.pc == 0x1234 && t.t == 19
    | _ => false) = true := by decide

/-- V9.6, R282. -/
theorem test_interrupt_after_ei :
    ends (step (at100 [(.im, 1), (.sp, 0x8000)] [] [] [0xFB, 0x00])) (fun t => decide (interrupt t = .declined t)) = true := by decide

/-- V9.9 and V9.10, R286, R300. -/
theorem test_interrupt_bad_mode :
    (match interrupt (irq 3) with
    | .fault (.badInterruptMode 3) t =>
      t.pc == 0x1234 && t.sp == 0x7FFE && (match step t with | .fault (.badInterruptMode 3) => true | _ => false)
    | _ => false) = true := by decide

/-- V9.12, R45. -/
theorem test_before_reset : step (construct [] Platform.plain) = .refused .beforeReset := rfl

/-- R45: no cell holds a value before reset. -/
theorem test_raw_read_before_reset : readCell (construct [] Platform.plain) .pc = none := rfl

/-- R60, R71: the last two addresses of a device, and RAM after them. -/
theorem test_fetch_from_device :
    State.fetchWindow { State.reset with
        pc := 0x40FE, answers := [0x3E, 0x5A], mem := [(0x4100, 0x76)], platform := ⟨[⟨0x4000, 0x0100, .device⟩], false⟩ }
      = [0x3E, 0x5A, 0x76, 0x00] := by decide

/-- V9.14, R295: the third NOP overshoots. -/
theorem test_runToBudget : ends (runToBudget 10 State.reset) (fun t => t.pc == 3 && t.rLow == 3 && t.t == 12) = true := by decide

/-! ### What the statements assume is met

One theorem for each statement with hypotheses, on the states below. -/

/-- Reset, interrupts on in IM 1, the stack below 8000, LD A,5A at PC. -/
def running : State := at100 [(.sp, 0x8000), (.iff1, 1), (.iff2, 1), (.im, 1)] [] [] [0x3E, 0x5A]

/-- DD FD 21 34 12 at PC: a prefix that falls back, then LD IY,1234. -/
def chained : State := at100 [] [(0x0104, 0x12)] [] [0xDD, 0xFD, 0x21, 0x34]

/-- HALT at PC. -/
def halting : State := at100 [(.sp, 0x8000), (.iff1, 1), (.iff2, 1), (.im, 1)] [] [] [0x76]

/-- ROM below 4000 and a device at 4000 to 40FF. -/
def mapped : State := { running with platform := ⟨[⟨0x0000, 0x4000, .rom⟩, ⟨0x4000, 0x0100, .device⟩], false⟩ }

/-- PC three bytes below the end of memory. -/
def atTop : State := { State.reset with pc := 0xFFFD }

theorem witness_EncodeThenDecode :
    (Instr.bitBXyd .iy 0xFF 7 7).wf = true ∧ isXyPrefix (.bitBXyd .iy 0xFF 7 7) = false
      ∧ (Instr.jrCc .c 0x80).wf = true ∧ (Instr.nopEd 0xFF).wf = true := by decide

theorem witness_DecodeThenEncode :
    decode [0xFD, 0xCB, 0xFF, 0x7F, 0x00] = .ok (.bitBXyd .iy 0xFF 7 7, [0x00])
      ∧ decode [0xDD, 0xDD] = .ok (.xyPrefix .ix, [0xDD]) := ⟨rfl, rfl⟩

theorem witness_StepRunsTheDecodedInstruction : Running running ∧ AtLeaf running (.ldRN .a 0x5A) :=
  ⟨⟨rfl, rfl, rfl⟩, rfl, [0x00, 0x00], rfl⟩

/-- The window's addresses wrap at the top of memory. -/
theorem witness_StepRunsTheDecodedInstruction_window :
    ∀ a ∈ [atTop.pc, atTop.pc + 1, atTop.pc + 2, atTop.pc + 3], atTop.kindAt a ≠ .device := by
  intro a _ h
  simp [atTop, State.kindAt, State.reset, Platform.plain, kindIn] at h

/-- No device at the top of memory. -/
theorem witness_OpcodeFetches : running.kindAt (0xFFFF + BitVec.ofNat 16 0) ≠ .device ∧ running.platform.contended = false := by
  decide

theorem witness_PrefixChainIsOneStep :
    Running chained ∧ (∀ k, k < 1 → AtFallback (chained.fetchOps k))
      ∧ AtLeaf (chained.fetchOps 1) (.ldXyNn .iy 0x1234) :=
  ⟨⟨rfl, rfl, rfl⟩, fun k hk => by
    obtain rfl : k = 0 := by omega
    exact ⟨.ix, [0xFD, 0x21, 0x34], rfl⟩, rfl, [], rfl⟩

theorem witness_EveryStepCompletes : Running chained := ⟨rfl, rfl, rfl⟩

theorem witness_StoppedMachine :
    (construct [] Platform.plain).resetDone = false
      ∧ (running.raise (.badInterruptMode 3)).resetDone = true
      ∧ (running.raise (.badInterruptMode 3)).faulted = some (.badInterruptMode 3) := ⟨rfl, rfl, rfl⟩

theorem witness_HaltedIdleStep :
    (running.setHalted true).resetDone = true ∧ (running.setHalted true).faulted = none
      ∧ (running.setHalted true).halted = true ∧ (running.setHalted true).platform.contended = false :=
  ⟨rfl, rfl, rfl, rfl⟩

theorem witness_StepTiming :
    (∃ t, step running = .next t) ∧ Running chained ∧ chained.platform.contended = false
      ∧ (∀ k, k < 1 → AtFallback (chained.fetchOps k)) ∧ AtLeaf (chained.fetchOps 1) (.ldXyNn .iy 0x1234)
      ∧ ∃ t, step chained = .next t :=
  ⟨⟨_, rfl⟩, witness_PrefixChainIsOneStep.1, rfl, witness_PrefixChainIsOneStep.2.1, witness_PrefixChainIsOneStep.2.2, _, rfl⟩

theorem witness_PcAdvancesByTheLength :
    Running running ∧ AtLeaf running (.ldRN .a 0x5A) ∧ movesPc (.ldRN .a 0x5A) = false :=
  ⟨⟨rfl, rfl, rfl⟩, ⟨rfl, [0x00, 0x00], rfl⟩, rfl⟩

theorem witness_RefreshCounter :
    (∃ t, exec (.ldRN .a 0x5A) running = .next t) ∧ Running running ∧ AtLeaf running (.ldRN .a 0x5A)
      ∧ ∃ t, interrupt running = .accepted t :=
  ⟨⟨_, rfl⟩, ⟨rfl, rfl, rfl⟩, ⟨rfl, [0x00, 0x00], rfl⟩, _, rfl⟩

theorem witness_InvAtReset : running.mem.wf = true := by decide

theorem witness_StepKeepsInv : Inv running ∧ ∃ t, step running = .next t := ⟨by decide, _, rfl⟩

/-- One state of each: an interrupt accepted, and one declined. -/
theorem witness_InterruptKeepsInv :
    Inv running ∧ running.resetDone = true ∧ running.faulted = none ∧ Inv State.reset ∧ State.reset.resetDone = true
      ∧ State.reset.faulted = none := by decide

theorem witness_RunToBudget :
    (∃ t, runToBudget 1 running = .next t) ∧ running.resetDone = true ∧ running.faulted = none ∧ 0 ≤ running.t :=
  ⟨⟨_, rfl⟩, rfl, rfl, Nat.zero_le _⟩

/-- The largest value of a cell of each width. -/
theorem witness_RawAccessors :
    (∀ b, cellBound (.reg .a) = some b → 255 < b) ∧ (∀ b, cellBound .r = some b → 255 < b)
      ∧ (∀ b, cellBound .sp = some b → 65535 < b) ∧ (∀ b, cellBound .iff1 = some b → 1 < b)
      ∧ (∀ b, cellBound .im = some b → 1000 < b) ∧ running.resetDone = true := by
  refine ⟨?_, ?_, ?_, ?_, ?_, rfl⟩ <;> simp [cellBound]

/-- RAM at the top of memory and at its bottom, ROM, and both ends of a device. -/
theorem witness_MemoryAccesses :
    running.mem.wf = true ∧ (0x0000 : Word) ≠ 0xFFFF ∧ running.kindAt 0xFFFF = .ram ∧ running.kindAt (0xFFFF + 1) = .ram
      ∧ mapped.kindAt 0x3FFF ≠ .device ∧ mapped.kindAt 0x4000 = .device ∧ mapped.kindAt 0x40FF = .device
      ∧ mapped.kindAt 0x4100 ≠ .device := by decide

/-- One state where it is declined for each reason, and one where it is not. -/
theorem witness_InterruptDeclined :
    running.resetDone = true ∧ running.faulted = none ∧ State.reset.iff1 = false ∧ (running.setEiDelay true).eiDelay = true
      ∧ running.iff1 = true ∧ running.eiDelay = false := by decide

/-- Each of the modes 0, 1 and 2, and the vector's second byte at 0000. -/
theorem witness_InterruptAcceptance :
    running.resetDone = true ∧ running.faulted = none ∧ running.iff1 = true ∧ running.eiDelay = false
      ∧ running.mem.wf = true ∧ running.im ≤ 1 ∧ (running.setIm 0).im ≤ 1 ∧ (running.setIm 2).im = 2
      ∧ ((running.setIm 2).setI 0xFF).kindAt (mkWord 0xFF 0xFF) ≠ .device
      ∧ ((running.setIm 2).setI 0xFF).kindAt (mkWord 0xFF 0xFF + 1) ≠ .device ∧ running.platform.contended = false := by decide

theorem witness_InterruptBadMode :
    (running.setIm 3).resetDone = true ∧ (running.setIm 3).faulted = none ∧ (running.setIm 3).iff1 = true
      ∧ (running.setIm 3).eiDelay = false ∧ 2 < (running.setIm 3).im ∧ (running.setIm 3).mem.wf = true := by decide

theorem witness_HaltWaitsForTheInterrupt :
    Running halting ∧ AtLeaf halting .halt ∧ halting.iff1 = true ∧ halting.im = 1 ∧ halting.mem.wf = true
      ∧ halting.kindAt (halting.sp - 1) = .ram ∧ halting.kindAt (halting.sp - 2) = .ram :=
  ⟨⟨rfl, rfl, rfl⟩, ⟨rfl, [0x00, 0x00, 0x00], rfl⟩, rfl, rfl, by decide, by decide, by decide⟩

theorem witness_StoresOfBytes : running.mem.wf = true := by decide

theorem witness_StoresOfWords : mapped.mem.wf = true := by decide

theorem witness_PushAndPop : running.mem.wf = true := by decide

theorem witness_StackExchangeAndRoundTrips :
    running.mem.wf = true ∧ running.kindAt (running.sp - 1) = .ram ∧ running.kindAt (running.sp - 2) = .ram := by decide

theorem witness_SourceOperands :
    running.kindAt running.hl ≠ .device ∧ running.kindAt (running.xy .iy + BitVec.signExtend 16 (0x80 : Byte)) ≠ .device := by
  decide

theorem witness_IncAndDec :
    running.mem.wf = true ∧ incForm (.memXyd .ix 0xFF) = some (.incXyd .ix 0xFF) ∧ incForm (.reg .a) = some (.incR .a)
      ∧ decForm (.half .iy .lo) = some (.decXyh .iy .lo) ∧ decForm .memHl = some .decMemHl := by decide

/-- Both ends of the range of decimal numbers. -/
theorem witness_LawsOfArithmetic :
    (99 < 100 ∧ (at100 [(.reg .a, 0x99)] [] [] []).main.a = BitVec.ofNat 8 (99 / 10 * 16 + 99 % 10))
      ∧ 0 < 100 ∧ running.main.a = BitVec.ofNat 8 (0 / 10 * 16 + 0 % 10) := by decide

theorem witness_AccumulatorRotates : (Instr.rra, Shift.rr) ∈ [(Instr.rlca, Shift.rlc), (.rrca, .rrc), (.rla, .rl), (.rra, .rr)] := by
  decide

theorem witness_ShiftsOfRegistersAndMemory : running.mem.wf = true := by decide

theorem witness_ResetAndSetOfBits : running.mem.wf = true := by decide

theorem witness_CopyForms : running.mem.wf = true := by decide

theorem witness_NibbleRotates : running.mem.wf = true := by decide

theorem witness_CallsAndRestarts : running.mem.wf = true := by decide

theorem witness_BlockTransfers :
    (Instr.lddr, (0xFFFF : Word), true) ∈ [(Instr.ldi, (1 : Word), false), (.ldd, 0xFFFF, false), (.ldir, 1, true), (.lddr, 0xFFFF, true)]
      ∧ running.mem.wf = true := by decide

theorem witness_BlockSearches :
    (Instr.cpdr, (0xFFFF : Word), true) ∈ [(Instr.cpi, (1 : Word), false), (.cpd, 0xFFFF, false), (.cpir, 1, true), (.cpdr, 0xFFFF, true)] := by
  decide

theorem witness_BlockInputs :
    (Instr.indr, (0xFF : Byte), true) ∈ [(Instr.ini, (1 : Byte), false), (.ind, 0xFF, false), (.inir, 1, true), (.indr, 0xFF, true)]
      ∧ running.mem.wf = true := by decide

theorem witness_BlockOutputs :
    (Instr.otdr, (0xFF : Byte), true) ∈ [(Instr.outi, (1 : Byte), false), (.outd, 0xFF, false), (.otir, 1, true), (.otdr, 0xFF, true)] := by
  decide

theorem witness_RepeatingFormIsItsSingleForm :
    (Instr.otdr, Instr.outd) ∈ [(Instr.ldir, Instr.ldi), (.lddr, .ldd), (.cpir, .cpi), (.cpdr, .cpd), (.inir, .ini), (.indr, .ind),
      (.otir, .outi), (.otdr, .outd)] ∧ running.platform.contended = false := by decide

end Sys2Proof.Tests
end

section
/-! A pair and its two cells, in terms of the raw accessors (R23, R24): what a pair reads as, and what a write of a pair does to
each cell. -/

namespace Sys2Proof.Machine

section
variable (s : State) (p : RawPair) (v : Word)

theorem toNat_rawReadPair :
    (s.rawReadPair p).toNat = s.rawRead (pairCells p).1 * 256 + s.rawRead (pairCells p).2 := by
  cases p <;> exact toNat_mkWord _ _

theorem rawRead_rawWritePair_hi : (s.rawWritePair p v).rawRead (pairCells p).1 = v.toNat / 256 := by
  have hcell : (s.rawWritePair p v).rawRead (pairCells p).1 = (hiByte v).toNat := by cases p <;> rfl
  rw [hcell, toNat_hiByte]

theorem rawRead_rawWritePair_lo : (s.rawWritePair p v).rawRead (pairCells p).2 = v.toNat % 256 := by
  have hcell : (s.rawWritePair p v).rawRead (pairCells p).2 = (loByte v).toNat := by cases p <;> rfl
  rw [hcell, toNat_loByte]

/-- A pair is no storage of its own: it reads back because its two cells do. -/
theorem rawReadPair_rawWritePair : (s.rawWritePair p v).rawReadPair p = v := by
  apply BitVec.eq_of_toNat_eq
  rw [toNat_rawReadPair, rawRead_rawWritePair_hi, rawRead_rawWritePair_lo, Nat.div_add_mod']

variable {c : RawCell}

/-- A new shadow set shows in the shadow cells alone, and there only where it differs from the old one. -/
theorem rawRead_setShadow (g : Bank) (hreg : ∀ r, c = .shadowReg r → g.get r = s.shadow.get r)
    (hf : c = .shadowF → g.f = s.shadow.f) : (s.setShadow g).rawRead c = s.rawRead c := by
  cases c with
  | shadowReg r => simp [State.rawRead, hreg r rfl]
  | shadowF => simp [State.rawRead, hf rfl]
  | _ => rfl

variable {p} in
theorem rawRead_rawWritePair_ne (hhi : c ≠ (pairCells p).1) (hlo : c ≠ (pairCells p).2) :
    (s.rawWritePair p v).rawRead c = s.rawRead c := by
  cases p with
  | bc => exact rawRead_setBc s v hhi hlo
  | de => exact rawRead_setDe s v hhi hlo
  | hl => exact rawRead_setHl s v hhi hlo
  | af => exact rawRead_setAf s v hhi hlo
  | ix => exact rawRead_setXy s .ix v hhi hlo
  | iy => exact rawRead_setXy s .iy v hhi hlo
  | shadowBc | shadowDe | shadowHl | shadowAf =>
    refine rawRead_setShadow s _ (fun r hr => ?_) (fun hc => ?_)
    · cases r <;> simp_all [pairCells, Bank.get]
    · simp_all [pairCells]

end

/-- Settles O18: the ten pairs share one rule for each half and one frame, and the read back follows from the two halves. -/
theorem pairsAreTheirHalves : Obligations.PairsAreTheirHalves := fun s p v =>
  ⟨toNat_rawReadPair s p, rawReadPair_rawWritePair s p v, rawRead_rawWritePair_hi s p v, rawRead_rawWritePair_lo s p v,
    fun _ hhi hlo => rawRead_rawWritePair_ne s v hhi hlo⟩

end Sys2Proof.Machine
end

section
/-! The walk over the table ends in an instruction or in want of bytes (R73 to R100): which slots of each region hold a row, and
how many bytes are enough for it. -/

namespace Sys2Proof

/-- The slot holds a row of the table: an instruction with the immediates it still needs. -/
def Slot.isRow : Slot → Bool
  | .leaf _ | .imm8 _ | .imm16 _ | .imm8x2 _ => true
  | .toCb | .toEd | .toXy _ | .fallback | .hole => false

/-! ### Every slot of every region is filled -/

theorem cbSlot_isRow (op : Byte) : (cbSlot op).isRow = true := by
  unfold cbSlot; split <;> rfl

theorem edSlot1_isRow (op : Byte) : (edSlot1 op).isRow = true := by
  dsimp only [edSlot1]
  split <;> (try split) <;> rfl

theorem edSlot2_isRow (op : Byte) : (edSlot2 op).isRow = true := by
  unfold edSlot2; split <;> rfl

theorem edSlot_isRow (op : Byte) : (edSlot op).isRow = true := by
  unfold edSlot
  split
  · exact edSlot1_isRow op
  · exact edSlot2_isRow op
  · rfl

/-- No row of the DD/FD+CB region has an immediate (R91, R99). -/
theorem indexedSlot_leaf (xy : XY) (d op : Byte) : ∃ i, indexedSlot xy d op = .leaf i := by
  unfold indexedSlot; split <;> exact ⟨_, rfl⟩

theorem plainSlot0_isRow (op : Byte) : (plainSlot0 op).isRow = true := by
  dsimp only [plainSlot0]
  split <;> split <;> rfl

theorem plainSlot1_isRow (op : Byte) : (plainSlot1 op).isRow = true := by
  unfold plainSlot1; split <;> rfl

/-- The last quarter of the plain region also holds the four bytes that continue the walk (R73). -/
theorem plainSlot3_cases (op : Byte) :
    (plainSlot3 op).isRow = true ∨ plainSlot3 op = .toCb ∨ plainSlot3 op = .toEd ∨ ∃ xy, plainSlot3 op = .toXy xy := by
  dsimp only [plainSlot3]
  split <;> (try split) <;> (try split) <;> simp [Slot.isRow]

theorem plainSlot_cases (op : Byte) :
    (plainSlot op).isRow = true ∨ plainSlot op = .toCb ∨ plainSlot op = .toEd ∨ ∃ xy, plainSlot op = .toXy xy := by
  unfold plainSlot
  split
  · exact .inl (plainSlot0_isRow op)
  · exact .inl (plainSlot1_isRow op)
  · left; split <;> rfl
  · exact plainSlot3_cases op

theorem xySlot0_cases (xy : XY) (op : Byte) : (xySlot0 xy op).isRow = true ∨ xySlot0 xy op = .fallback := by
  unfold xySlot0; split <;> simp [Slot.isRow]

theorem xySlot1_cases (xy : XY) (op : Byte) : (xySlot1 xy op).isRow = true ∨ xySlot1 xy op = .fallback := by
  dsimp only [xySlot1]; split <;> simp [Slot.isRow]

theorem xySlot3_cases (xy : XY) (op : Byte) : (xySlot3 xy op).isRow = true ∨ xySlot3 xy op = .fallback := by
  unfold xySlot3; split <;> simp [Slot.isRow]

/-- After DD or FD a byte has a handler or falls back (R89). -/
theorem xySlot_cases (xy : XY) (op : Byte) : (xySlot xy op).isRow = true ∨ xySlot xy op = .fallback := by
  unfold xySlot
  split
  · exact xySlot0_cases xy op
  · exact xySlot1_cases xy op
  · split <;> simp [Slot.isRow]
  · exact xySlot3_cases xy op

/-! ### How many bytes are enough -/

/-- The answer is an instruction, or else the bytes ended early and were fewer than `n`. -/
def ReadsWithin (n : Nat) (bs : List Byte) (answer : Except DecodeReject (Instr × List Byte)) : Prop :=
  (∃ i rest, answer = .ok (i, rest)) ∨ (answer = .error .truncated ∧ bs.length < n)

namespace ReadsWithin

variable {n m : Nat} {bs : List Byte} {answer : Except DecodeReject (Instr × List Byte)}

theorem mono (h : ReadsWithin n bs answer) (hle : n ≤ m) : ReadsWithin m bs answer :=
  h.imp_right fun ⟨ht, hlen⟩ => ⟨ht, hlen.trans_le hle⟩

/-- A byte already read counts on both sides. -/
theorem cons (h : ReadsWithin n bs answer) (op : Byte) : ReadsWithin (n + 1) (op :: bs) answer :=
  h.imp_right fun ⟨ht, hlen⟩ => ⟨ht, Nat.succ_lt_succ hlen⟩

theorem truncated (h : bs.length < n) : ReadsWithin n bs (.error .truncated) := .inr ⟨rfl, h⟩

theorem ok_of_length (h : ReadsWithin n bs answer) (hlen : n ≤ bs.length) : ∃ i rest, answer = .ok (i, rest) :=
  h.resolve_right fun ⟨_, hlt⟩ => absurd hlen (Nat.not_le.mpr hlt)

theorem ne_unpopulated (h : ReadsWithin n bs answer) (region : TableRegion) (slot : Byte) :
    answer ≠ .error (.unpopulated region slot) := by
  rcases h with ⟨i, rest, rfl⟩ | ⟨rfl, _⟩ <;> simp

end ReadsWithin

/-- A row needs no more than two immediates (R94). -/
theorem finish_reads {slot : Slot} (h : slot.isRow = true) (region : TableRegion) (op : Byte) (bs : List Byte) :
    ReadsWithin 2 bs (slot.finish region op bs) := by
  unfold Slot.finish
  split <;> simp_all [ReadsWithin, Slot.isRow]

/-- The displacement and the sub-opcode are all it takes. -/
theorem decodeIndexed_reads (xy : XY) : ∀ bs : List Byte, ReadsWithin 2 bs (decodeIndexed xy bs)
  | [] | [_] => .truncated (by simp)
  | d :: op :: rest => by
    obtain ⟨i, h⟩ := indexedSlot_leaf xy d op
    exact .inl ⟨i, rest, by simp only [decodeIndexed, h, Slot.finish]⟩

theorem decodeXy_of_isRow {xy : XY} {op : Byte} (bs : List Byte) (hcb : op ≠ 0xCB) (h : (xySlot xy op).isRow = true) :
    decodeXy xy (op :: bs) = (xySlot xy op).finish xy.region op bs := by
  cases hs : xySlot xy op <;> simp_all [decodeXy, Slot.isRow]

theorem decode_of_isRow {op : Byte} (bs : List Byte) (h : (plainSlot op).isRow = true) :
    decode (op :: bs) = (plainSlot op).finish .plain op bs := by
  cases hs : plainSlot op <;> simp_all [decode, Slot.isRow]

theorem decodeXy_reads (xy : XY) : ∀ bs : List Byte, ReadsWithin 3 bs (decodeXy xy bs)
  | [] => .truncated (by simp)
  | op :: bs => by
    by_cases hcb : op = 0xCB
    · simpa only [decodeXy, hcb, if_true] using (decodeIndexed_reads xy bs).cons 0xCB
    · rcases xySlot_cases xy op with h | h
      · rw [decodeXy_of_isRow bs hcb h]
        exact (finish_reads h xy.region op bs).cons op
      · exact .inl ⟨.xyPrefix xy, op :: bs, by simp only [decodeXy, if_neg hcb, h]⟩

/-- Four bytes hold any instruction (R94), and no slot is empty (R100). -/
theorem decode_reads : ∀ bs : List Byte, ReadsWithin 4 bs (decode bs)
  | [] => .truncated (by simp)
  | op :: bs => by
    rcases plainSlot_cases op with h | h | h | ⟨xy, h⟩
    · rw [decode_of_isRow bs h]
      exact ((finish_reads h .plain op bs).cons op).mono (by decide)
    · cases bs with
      | nil => simpa only [decode, h] using .truncated (by simp)
      | cons op2 rest =>
        simpa only [decode, h] using ((finish_reads (cbSlot_isRow op2) .cb op2 rest).cons op2).cons op
    · cases bs with
      | nil => simpa only [decode, h] using .truncated (by simp)
      | cons op2 rest =>
        simpa only [decode, h] using ((finish_reads (edSlot_isRow op2) .ed op2 rest).cons op2).cons op
    · simpa only [decode, h] using (decodeXy_reads xy bs).cons op

/-- Settles O3: both halves follow from `decode_reads`, which says what any list of bytes decodes to. -/
theorem everyByteSequenceDecodes : Obligations.EveryByteSequenceDecodes :=
  ⟨fun b0 b1 b2 b3 rest => (decode_reads (b0 :: b1 :: b2 :: b3 :: rest)).ok_of_length (by simp),
    fun bs => (decode_reads bs).ne_unpopulated⟩

end Sys2Proof
end

section
/-! What `n` opcode fetches leave (R71), and the byte the next one gives. -/

namespace Sys2Proof.Machine

theorem rawRead_fetchOp (s : State) {c : RawCell} (hr : c ≠ .r) (hp : c ≠ .pc) (ht : c ≠ .t) :
    s.fetchOp.rawRead c = s.rawRead c := by
  simp [State.fetchOp, hr, hp, ht]

section
variable (s : State) (n : Nat)

@[simp] theorem fetchOps_pc : (s.fetchOps n).pc = s.pc + BitVec.ofNat 16 n := by
  induction n with
  | zero => simp [State.fetchOps]
  | succ n ih => rw [State.fetchOps, fetchOp_pc, ih, BitVec.ofNat_add, BitVec.add_assoc]; rfl

@[simp] theorem fetchOps_rLow : (s.fetchOps n).rLow = s.rLow + BitVec.ofNat 7 n := by
  induction n with
  | zero => simp [State.fetchOps]
  | succ n ih => rw [State.fetchOps, fetchOp_rLow, ih, BitVec.ofNat_add, BitVec.add_assoc]; rfl

@[simp] theorem fetchOps_rB7 : (s.fetchOps n).rB7 = s.rB7 := by
  induction n with
  | zero => rfl
  | succ n ih => rw [State.fetchOps, fetchOp_rB7, ih]

@[simp] theorem fetchOps_scr : (s.fetchOps n).scr = s.scr := by
  induction n with
  | zero => rfl
  | succ n ih => rw [State.fetchOps, fetchOp_scr, ih]

@[simp] theorem fetchOps_eiDelay : (s.fetchOps n).eiDelay = s.eiDelay := by
  induction n with
  | zero => rfl
  | succ n ih => rw [State.fetchOps, fetchOp_eiDelay, ih]

@[simp] theorem fetchOps_events : (s.fetchOps n).events = s.events := by
  induction n with
  | zero => rfl
  | succ n ih => rw [State.fetchOps, fetchOp_events, ih]

theorem fetchOps_t_le : s.t + 4 * n ≤ (s.fetchOps n).t := by
  induction n with
  | zero => exact Nat.le_refl _
  | succ n ih =>
    have hfetch : (s.fetchOps n).t + 4 ≤ (s.fetchOps (n + 1)).t := (tick_le _ _ _ _).trans_eq (fetchOp_t _).symm
    omega

theorem fetchOps_t (hc : s.platform.contended = false) : (s.fetchOps n).t = s.t + 4 * n := by
  induction n with
  | zero => rfl
  | succ n ih => rw [State.fetchOps, fetchOp_t, tick_t _ _ _ _ (by simpa using hc), ih, Nat.mul_succ, Nat.add_assoc]

theorem sameCellsBut_fetchOps : SameCellsBut [.r] s (s.fetchOps n) := by
  intro c hr hp ht
  induction n with
  | zero => rfl
  | succ n ih => rw [State.fetchOps, rawRead_fetchOp _ (by simpa using hr) hp ht, ih]

/-- The window opens with the byte the next fetch gives. -/
theorem fetchOps_fetchWindow_head :
    (s.fetchOps n).fetchWindow.head? = some ((s.fetchOps n).byteAt (s.pc + BitVec.ofNat 16 n)) := by
  rw [← fetchOps_pc]; rfl

end

/-- Settles O10: each part by induction on the number of fetches. -/
theorem State.opcodeFetches : Obligations.OpcodeFetches := fun s n =>
  ⟨fetchOps_fetchWindow_head s n,
    fun hplain => (byteAt_plain _ (by rwa [kindAt_fetchOps])).trans (peek_congr (fetchOps_mem s n) _),
    fetchOps_pc s n, fetchOps_rLow s n, fetchOps_rB7 s n, fetchOps_t_le s n, fetchOps_t s n, sameCellsBut_fetchOps s n,
    fetchOps_mem s n, fetchOps_scr s n, fetchOps_eiDelay s n, fetchOps_events s n, fetchOps_platform s n⟩

end Sys2Proof.Machine
end

section
/-! Where a jump takes PC (R78, R211 to R216). -/

namespace Sys2Proof.Machine

/-- An instruction's one next state, with its frame and cost from the laws of all instructions and what is shown of it here. -/
theorem exec_next_and {i : Instr} {s t : State} {P : State → Prop} (h : exec i s = .next t) (hP : P t) :
    ∃ t, exec i s = .next t ∧ FrameAndCost i s t ∧ P t :=
  ⟨t, h, exec_frameAndCost i s t h, hP⟩

section
variable (s : State)

@[simp] theorem jumpRel_pc (e : Byte) : (s.jumpRel e).pc = s.pc + e.signExtend 16 := rfl

@[simp] theorem jumpRel_main (e : Byte) : (s.jumpRel e).main = s.main := by simp [State.jumpRel]

theorem exec_jrCc_pc (cc : Cond) (e : Byte) :
    ∃ t, exec (.jrCc cc e) s = .next t ∧ FrameAndCost (.jrCc cc e) s t
      ∧ t.pc = if s.cond cc then s.pc + 1 + e.signExtend 16 else s.pc + 1 := by
  refine exec_next_and rfl ?_
  split <;> simp

theorem exec_jpCcNn_pc (cc : Cond) (nn : Word) :
    ∃ t, exec (.jpCcNn cc nn) s = .next t ∧ FrameAndCost (.jpCcNn cc nn) s t
      ∧ t.pc = if s.cond cc then nn else s.pc + 2 := by
  refine exec_next_and rfl ?_
  split <;> simp

/-- DJNZ jumps unless B comes to 0, which it does from 1 alone (R215). -/
theorem exec_djnz_pc (e : Byte) :
    ∃ t, exec (.djnz e) s = .next t ∧ FrameAndCost (.djnz e) s t ∧ t.main.b = s.main.b - 1
      ∧ t.pc = if s.main.b = 1 then s.pc + 1 else s.pc + 1 + e.signExtend 16 := by
  refine exec_next_and rfl ?_
  have hb : (((s.noMreq s.ir 1).setR8 .b (s.main.b - 1)).fetchImm).main.b = s.main.b - 1 := by simp [Bank.set]
  simp only [hb, pred_eq_zero8]
  split <;> simp [Bank.set]

end

/-- Settles O50: the condition of R78 is the model's own, and each form's PC follows from the fetch of its operand. -/
theorem jumps : Obligations.Jumps := by
  intro s holds
  have hholds (cc : Cond) : holds cc = s.cond cc := by cases cc <;> rfl
  simp only [hholds]
  exact ⟨fun nn => exec_next_and rfl rfl, exec_jpCcNn_pc s, exec_next_and rfl rfl, fun xy => exec_next_and rfl rfl,
    fun e => ⟨exec_next_and rfl (by simp), fun cc => exec_jrCc_pc s cc e, exec_djnz_pc s e⟩⟩

end Sys2Proof.Machine
end

section
/-! What a store leaves in memory under the platform's write policy (R51), for a state that differs from the one the rule began
in by its fetches and delays. -/

namespace Sys2Proof.Machine

section
variable {s u : State} {a b : Word}

/-- Only the contents and the map before the write count, so operand fetches may come between. -/
theorem stored_memWrite (hplatform : u.platform = s.platform) (hpeek : u.peek a = s.peek a) (hwf : u.mem.wf = true) (v : Byte) :
    Stored s (u.memWrite a v) a v := by
  rw [Stored, peek_memWrite u a a v hwf, if_pos rfl, kindAt_congr hplatform, hpeek]

/-- A later write elsewhere does not undo a store. -/
theorem Stored.memWrite_ne {v : Byte} (h : Stored s u a v) (hne : a ≠ b) (w : Byte) : Stored s (u.memWrite b w) a v := by
  rw [Stored, peek_memWrite_ne u w hne]
  exact h

/-- A push that has stored its high byte and is about to store its low byte (R58). -/
def State.pushHi (s : State) (v : Word) : State := ((s.setSp (s.sp - 1)).memWrite (s.sp - 1) (hiByte v)).setSp (s.sp - 2)

theorem push_eq (s : State) (v : Word) : s.push v = (s.pushHi v).memWrite (s.sp - 2) (loByte v) := by
  simp [State.push, State.pushHi, sub_one_sub_one]

theorem ne_add_one (a : Word) : a ≠ a + 1 := by bv_omega

section
variable (hplatform : u.platform = s.platform) (hmem : u.mem = s.mem) (hwf : s.mem.wf = true)
include hplatform hmem hwf

theorem stored_memWrite_of_mem (a : Word) (v : Byte) : Stored s (u.memWrite a v) a v :=
  stored_memWrite hplatform (peek_congr hmem a) (hmem ▸ hwf) v

/-- A word is two byte writes, the second at another address also where the first is the last of memory (R54, R56). -/
theorem storedWord_writeWord (a v : Word) : StoredWord s (u.writeWord a v) a v := by
  have hlo : Stored s (u.memWrite a (loByte v)) a (loByte v) := stored_memWrite_of_mem hplatform hmem hwf a _
  have hnext : (u.memWrite a (loByte v)).peek (a + 1) = s.peek (a + 1) :=
    (peek_memWrite_ne u _ (ne_add_one a).symm).trans (peek_congr hmem _)
  exact ⟨hlo.memWrite_ne (ne_add_one a) _,
    stored_memWrite (by simpa using hplatform) hnext (wf_memWrite _ _ _ (hmem ▸ hwf)) _⟩

/-- The high byte goes to SP - 1 and then the low byte to SP - 2 (R58). -/
theorem stored_push (hsp : u.sp = s.sp) (v : Word) :
    Stored s (u.push v) (s.sp - 1) (hiByte v) ∧ Stored s (u.push v) (s.sp - 2) (loByte v) := by
  rw [← hsp, push_eq]
  have hne : u.sp - 1 ≠ u.sp - 2 := by bv_omega
  have hhi : Stored s (u.pushHi v) (u.sp - 1) (hiByte v) :=
    stored_memWrite_of_mem (u := u.setSp (u.sp - 1)) hplatform hmem hwf _ _
  have hlow : (u.pushHi v).peek (u.sp - 2) = s.peek (u.sp - 2) :=
    (peek_memWrite_ne (u.setSp _) _ hne.symm).trans (peek_congr hmem _)
  have hwf' : (u.pushHi v).mem.wf = true := wf_memWrite (u.setSp _) _ _ (hmem ▸ hwf)
  exact ⟨hhi.memWrite_ne hne _, stored_memWrite (by simpa [State.pushHi] using hplatform) hlow hwf' _⟩

end

end

end Sys2Proof.Machine
end

section
/-! The loads, the stack and the exchanges (R111 to R131): what each destination holds afterwards. The frame and the cost come
with `exec_next_and`. -/

namespace Sys2Proof.Machine

/-! ### A destination read after its write -/

section
variable (s : State) (xy : XY) (v : Word)

theorem rawRead_setXReg_self (r : XReg) (w : Byte) : (s.setXReg xy r w).rawRead (xregCell xy r) = w.toNat := by
  cases r with
  | xh => exact congrArg BitVec.toNat (setHalf_half s w xy .hi)
  | xl => exact congrArg BitVec.toNat (setHalf_half s w xy .lo)
  | _ => rfl

theorem setXy_half_hi : (s.setXy xy v).half xy .hi = hiByte v := by simp [State.half, State.setXy]

theorem setXy_half_lo : (s.setXy xy v).half xy .lo = loByte v := by simp [State.half, State.setXy]

@[simp] theorem hiByte_xy : hiByte (s.xy xy) = s.half xy .hi := hiByte_mkWord _ _

@[simp] theorem loByte_xy : loByte (s.xy xy) = s.half xy .lo := loByte_mkWord _ _

/-- The second byte read is the high one (R54). -/
@[simp] theorem hiByte_readWord (a : Word) : hiByte (s.readWord a) = (s.afterRead a).byteAt (a + 1) := hiByte_mkWord _ _

@[simp] theorem loByte_readWord (a : Word) : loByte (s.readWord a) = s.byteAt a := loByte_mkWord _ _

theorem toNat_readWord (a : Word) : (s.readWord a).toNat = ((s.afterRead a).byteAt (a + 1)).toNat * 256 + (s.byteAt a).toNat :=
  toNat_mkWord _ _

end

/-! ### PUSH and POP -/

section
variable (s : State)

/-- What PUSH leaves of SP and the stack, for any pair's value (R126). -/
theorem stored_pushPair (hwf : s.mem.wf = true) (v : Word) :
    (s.pushPair v).sp = s.sp - 2 ∧ Stored s (s.pushPair v) (s.sp - 1) (hiByte v) ∧ Stored s (s.pushPair v) (s.sp - 2) (loByte v) :=
  ⟨by simp [State.pushPair], stored_push (by simp) (by simp) hwf (by simp) v⟩

theorem exec_popQq (qq : RP2) :
    ∃ t, exec (.popQq qq) s = .next t ∧ FrameAndCost (.popQq qq) s t ∧ t.sp = s.sp + 2
      ∧ hiByte (t.rp2 qq) = (s.afterRead s.sp).byteAt (s.sp + 1) ∧ loByte (t.rp2 qq) = s.byteAt s.sp := by
  refine exec_next_and rfl ⟨by simp, ?_, ?_⟩ <;> rw [setRp2_rp2]
  · exact hiByte_readWord s s.sp
  · exact loByte_readWord s s.sp

theorem exec_popXy (xy : XY) :
    ∃ t, exec (.popXy xy) s = .next t ∧ FrameAndCost (.popXy xy) s t ∧ t.sp = s.sp + 2
      ∧ t.half xy .hi = (s.afterRead s.sp).byteAt (s.sp + 1) ∧ t.half xy .lo = s.byteAt s.sp :=
  exec_next_and rfl ⟨by simp, (setXy_half_hi _ _ _).trans (hiByte_readWord s s.sp),
    (setXy_half_lo _ _ _).trans (loByte_readWord s s.sp)⟩

end

/-! ### The statements -/

/-- Settles O26: each destination reads as what its one write put there. -/
theorem loadsOfRegisters : Obligations.LoadsOfRegisters :=
  ⟨fun r _ s => exec_next_and rfl (setR8_r8 s _ r), fun xy r _ s => exec_next_and rfl (rawRead_setXReg_self s xy r _),
    fun xy h _ s => exec_next_and rfl (setHalf_half s _ xy h), fun xy h s => exec_next_and rfl (setHalf_half s _ xy h),
    fun r n s => exec_next_and rfl (setR8_r8 s.fetchImm n r),
    fun xy h n s => exec_next_and rfl (setHalf_half s.fetchImm n xy h)⟩

/-- Settles O27: the address is computed before the write, and the register reads as what the write put there. -/
theorem loadsOfBytesFromMemory : Obligations.LoadsOfBytesFromMemory :=
  ⟨fun r _ => exec_next_and rfl (setR8_r8 _ _ r),
    fun _ r _ _ => ⟨exec_next_and rfl (setR8_r8 _ _ r), exec_next_and rfl (setR8_r8 _ _ r), exec_next_and rfl (setR8_r8 _ _ .a)⟩,
    fun _ _ => exec_next_and rfl (setR8_r8 _ _ .a), fun _ _ => exec_next_and rfl (setR8_r8 _ _ .a)⟩

/-- Settles O28: each form is its operand fetches, which leave memory and the map, and one byte write. -/
theorem storesOfBytes : Obligations.StoresOfBytes := by
  intro s hwf
  have hstored {u : State} (hplatform : u.platform = s.platform) (hmem : u.mem = s.mem) (a : Word) (v : Byte) :
      Stored s (u.memWrite a v) a v := stored_memWrite_of_mem hplatform hmem hwf a v
  have hxyd (xy : XY) (r : R8) (d : Byte) : Stored s (s.storeXyd xy r d) (s.eaXy xy d) (s.r8 r) :=
    hstored (fetchDisp_platform s) (fetchDisp_mem s) _ _
  exact ⟨fun _ => exec_next_and rfl (hstored rfl rfl _ _),
    fun xy r d => ⟨exec_next_and rfl (hxyd xy r d), exec_next_and rfl (hxyd xy r d), exec_next_and rfl (hxyd xy .a d)⟩,
    fun _ => exec_next_and rfl (hstored (fetchImm_platform s) (fetchImm_mem s) _ _),
    fun _ _ _ => exec_next_and rfl (hstored (by simp) (by simp) _ _),
    fun _ => exec_next_and rfl (hstored rfl rfl _ _),
    fun _ => exec_next_and rfl (hstored (fetchImm2_platform s) (fetchImm2_mem s) _ _)⟩

/-- Settles O29: a pair reads as the word written to it, and a word read from memory has the byte read first as its low half. -/
theorem loadsOfWords : Obligations.LoadsOfWords :=
  ⟨fun dd nn s => exec_next_and rfl (setRp_rp s.fetchImm2 nn dd), fun xy nn s => exec_next_and rfl (setXy_xy s.fetchImm2 nn xy),
    fun nn s => ⟨exec_next_and rfl ⟨hiByte_readWord s.fetchImm2 nn, loByte_readWord s.fetchImm2 nn⟩,
      fun xy => exec_next_and rfl ⟨(setXy_half_hi _ xy _).trans (hiByte_readWord s.fetchImm2 nn),
        (setXy_half_lo _ xy _).trans (loByte_readWord s.fetchImm2 nn)⟩,
      fun dd => exec_next_and rfl ((congrArg BitVec.toNat (setRp_rp _ _ dd)).trans (toNat_readWord s.fetchImm2 nn))⟩,
    fun _ => ⟨exec_next_and rfl rfl, fun _ => exec_next_and rfl rfl⟩⟩

/-- Settles O30: all three forms are one word write after the fetch of nn. -/
theorem storesOfWords : Obligations.StoresOfWords := by
  intro nn s hwf
  have hstored (v : Word) : StoredWord s (s.fetchImm2.writeWord nn v) nn v :=
    storedWord_writeWord (fetchImm2_platform s) (fetchImm2_mem s) hwf nn v
  exact ⟨exec_next_and rfl (hstored s.hl), fun xy => exec_next_and rfl (hstored (s.xy xy)),
    fun dd => exec_next_and rfl (hstored (s.rp dd))⟩

/-- Settles O31: PUSH by the two writes of `stored_push`, POP by the two reads of a word. -/
theorem pushAndPop : Obligations.PushAndPop :=
  ⟨fun s hwf => ⟨fun qq => exec_next_and rfl (stored_pushPair s hwf (s.rp2 qq)),
      fun xy => exec_next_and rfl (by simpa using stored_pushPair s hwf (s.xy xy))⟩,
    fun s => ⟨exec_popQq s, exec_popXy s⟩⟩

/-- Settles O33: EX DE,HL writes the old values of both pairs; the other two give each register the other set's. -/
theorem exchanges : Obligations.Exchanges :=
  ⟨fun s => exec_next_and rfl ⟨(setHl_de _ _).trans (setDe_de s s.hl), setHl_hl _ s.de⟩,
    fun _ => exec_next_and rfl ⟨rfl, rfl, rfl, rfl⟩,
    fun _ => exec_next_and rfl ⟨rfl, rfl, rfl, rfl, rfl, rfl⟩⟩

end Sys2Proof.Machine
end

section
/-! The 8-bit flag computations by arithmetic (R140 to R165): what the tables answer for the bits of a sum or a difference, and F
as its eight flags. -/

namespace Sys2Proof.Machine

/-! ### The half-carry and overflow tables -/

/-- A bit compares the number below the next bit with the bit's own weight. -/
theorem getLsbD_iff {w : Nat} (x : BitVec w) (k : Nat) : x.getLsbD k = true ↔ 2 ^ k ≤ x.toNat % 2 ^ (k + 1) := by
  have hbit : x.getLsbD k = decide (2 ^ k ≤ x.toNat % 2 ^ (k + 1)) := by
    simpa [BitVec.msb_setWidth] using BitVec.msb_eq_decide (x.setWidth (k + 1))
  rw [hbit, decide_eq_true_eq]

section
variable (p q r : Bool)

/-- A carry out of a bit: both operands have it, or one has it and the result has lost it (R143). -/
theorem hcAdd_hashIndex : hcAdd (hashIndex p q r) = flagIf (decide (p ∧ q ∨ (p ∨ q) ∧ ¬r)) flagH := by
  revert p q r; decide

/-- A borrow out of a bit (R144). -/
theorem hcSub_hashIndex : hcSub (hashIndex p q r) = flagIf (decide (q ∧ r ∨ ¬p ∧ (q ∨ r))) flagH := by
  revert p q r; decide

/-- Operands of one sign and a result of the other (R145). -/
theorem ovAdd_hashIndex : ovAdd (hashIndex p q r) = flagIf (decide ((p ↔ q) ∧ ¬(r ↔ p))) flagPV := by
  revert p q r; decide

/-- Operands of two signs and a result without the first one's (R146). -/
theorem ovSub_hashIndex : ovSub (hashIndex p q r) = flagIf (decide (¬(p ↔ q) ∧ ¬(r ↔ p))) flagPV := by
  revert p q r; decide

end

theorem beyondSigned_eight (x : Int) : beyondSigned 8 x = decide (x < -128 ∨ 128 ≤ x) := by simp [beyondSigned]

/-! ### Sum and difference (R149, R150) -/

section
variable (a v : Byte) (cin : Bool)

theorem toNat_add9 : (add9 a v cin).toNat = a.toNat + v.toNat + cin.toNat := by
  cases cin <;> simp [add9] <;> omega

theorem toNat_sub9 : (sub9 a v cin).toNat = (a.toNat + 512 - v.toNat - cin.toNat) % 512 := by
  cases cin <;> simp [sub9, BitVec.toNat_sub] <;> omega

theorem toNat_add8 : (add8 a v cin).toNat = (a.toNat + v.toNat + cin.toNat) % 256 := by
  rw [add8, BitVec.toNat_setWidth, toNat_add9]

theorem toNat_sub8 : (sub8 a v cin).toNat = (a.toNat + 512 - v.toNat - cin.toNat) % 256 := by
  rw [sub8, BitVec.toNat_setWidth, toNat_sub9]; omega

theorem sub8_false : sub8 a v false = a - v :=
  BitVec.eq_of_toNat_eq (by rw [toNat_sub8, BitVec.toNat_sub, Bool.toNat_false]; omega)

theorem add9_carry : (add9 a v cin).getLsbD 8 = decide (256 ≤ a.toNat + v.toNat + cin.toNat) := by
  have hcin := cin.toNat_le
  rw [Bool.eq_iff_iff, getLsbD_iff, toNat_add9, decide_eq_true_eq]; omega

theorem sub9_borrow : (sub9 a v cin).getLsbD 8 = decide (a.toNat < v.toNat + cin.toNat) := by
  have hcin := cin.toNat_le
  rw [Bool.eq_iff_iff, getLsbD_iff, toNat_sub9, decide_eq_true_eq]; omega

theorem hcAdd_idx8h :
    hcAdd (idx8h a v (add8 a v cin)) = flagIf (decide (16 ≤ a.toNat % 16 + v.toNat % 16 + cin.toNat)) flagH := by
  have hcin := cin.toNat_le
  rw [idx8h, hcAdd_hashIndex]
  simp only [getLsbD_iff, toNat_add8]
  congr 2; rw [eq_iff_iff]; omega

theorem hcSub_idx8h :
    hcSub (idx8h a v (sub8 a v cin)) = flagIf (decide (a.toNat % 16 < v.toNat % 16 + cin.toNat)) flagH := by
  have hcin := cin.toNat_le
  rw [idx8h, hcSub_hashIndex]
  simp only [getLsbD_iff, toNat_sub8]
  congr 2; rw [eq_iff_iff]; omega

theorem ovAdd_idx8v :
    ovAdd (idx8v a v (add8 a v cin)) = flagIf (beyondSigned 8 (a.toInt + v.toInt + cin.toNat)) flagPV := by
  have hcin := cin.toNat_le
  rw [idx8v, ovAdd_hashIndex, beyondSigned_eight]
  simp only [getLsbD_iff, toNat_add8, BitVec.toInt_eq_toNat_cond]
  congr 2; rw [eq_iff_iff]; omega

theorem ovSub_idx8v :
    ovSub (idx8v a v (sub8 a v cin)) = flagIf (beyondSigned 8 (a.toInt - v.toInt - cin.toNat)) flagPV := by
  have hcin := cin.toNat_le
  rw [idx8v, ovSub_hashIndex, beyondSigned_eight]
  simp only [getLsbD_iff, toNat_sub8, BitVec.toInt_eq_toNat_cond]
  congr 2; rw [eq_iff_iff]; omega

end

/-! ### F as its flags -/

theorem sz53_bits (v : Byte) :
    (sz53 v).getLsbD 7 = v.getLsbD 7 ∧ (sz53 v).getLsbD 6 = (v == 0) ∧ (sz53 v).getLsbD 5 = v.getLsbD 5
      ∧ (sz53 v).getLsbD 4 = false ∧ (sz53 v).getLsbD 3 = v.getLsbD 3 ∧ (sz53 v).getLsbD 2 = false
      ∧ (sz53 v).getLsbD 1 = false ∧ (sz53 v).getLsbD 0 = false := by
  simp only [sz53, BitVec.getLsbD_or, BitVec.getLsbD_and, flagIf_bit]; simp

theorem parity_eq_flagIf (v : Byte) : parity v = flagIf (evenParity v) flagPV := by
  have hcount : (popCount v % 2 == 0) = evenParity v := by revert v; decide
  rw [parity, hcount]

section
variable (a v f : Byte) (cin : Bool)

theorem flagBits_add8F : flagBits (add8F a v cin) = addFlags a v cin.toNat (add8 a v cin) := by
  simp only [add8F, add9_carry, hcAdd_idx8h, ovAdd_idx8v, flagBits, BitVec.getLsbD_or, flagIf_bit, sz53_bits, addFlags]
  simp

theorem flagBits_sub8F : flagBits (sub8F a v cin) = subFlags a v cin.toNat (sub8 a v cin) := by
  simp only [sub8F, sub9_borrow, hcSub_idx8h, ovSub_idx8v, flagBits, BitVec.getLsbD_or, flagIf_bit, sz53_bits, subFlags]
  simp

/-- CP differs from SUB in X5 and X3 alone (R158). -/
theorem flagBits_cpF :
    flagBits (cpF a v) = { subFlags a v 0 (a - v) with x5 := v.getLsbD 5, x3 := v.getLsbD 3 } := by
  rw [← sub8_false]
  simp only [cpF, sub9_borrow, hcSub_idx8h, ovSub_idx8v, flagBits, BitVec.getLsbD_or, BitVec.getLsbD_and, flagIf_bit, subFlags]
  simp

theorem flagBits_sz53p : flagBits (sz53p v) = parityFlags v false false := by
  simp only [sz53p, parity_eq_flagIf, flagBits, BitVec.getLsbD_or, flagIf_bit, sz53_bits, parityFlags]
  simp

theorem flagBits_flagH_or : flagBits (flagH ||| f) = { flagBits f with h := true } := by simp [flagBits]

theorem flagBits_cplF :
    flagBits (cplF f a) = { flagBits f with x5 := a.getLsbD 5, h := true, x3 := a.getLsbD 3, n := true } := by
  simp [flagBits, cplF]

theorem add_one_beq (k : Byte) : (v + 1 == k) = (v == k - 1) := by
  rw [Bool.eq_iff_iff, beq_iff_eq, beq_iff_eq, eq_sub_iff_add_eq]

theorem sub_one_beq (k : Byte) : (v - 1 == k) = (v == k + 1) := by
  rw [Bool.eq_iff_iff, beq_iff_eq, beq_iff_eq, sub_eq_iff_eq_add]

theorem flagBits_inc8F :
    flagBits (inc8F f v) =
      { s := (v + 1).getLsbD 7, z := v == 0xFF, x5 := (v + 1).getLsbD 5, h := v.toNat % 16 == 15,
        x3 := (v + 1).getLsbD 3, pv := v == 0x7F, n := false, c := f.getLsbD 0 } := by
  have hz : (v + 1 == 0) = (v == 0xFF) := add_one_beq v 0
  have hh : ((v + 1) &&& 0x0F == 0) = (v.toNat % 16 == 15) := by revert v; decide
  have hpv : (v + 1 == 0x80) = (v == 0x7F) := add_one_beq v 0x80
  simp only [inc8F, hz, hh, hpv, flagBits, BitVec.getLsbD_or, BitVec.getLsbD_and, flagIf_bit, sz53_bits]
  simp

theorem flagBits_dec8F :
    flagBits (dec8F f v) =
      { s := (v - 1).getLsbD 7, z := v == 0x01, x5 := (v - 1).getLsbD 5, h := v.toNat % 16 == 0,
        x3 := (v - 1).getLsbD 3, pv := v == 0x80, n := true, c := f.getLsbD 0 } := by
  have hz : (v - 1 == 0) = (v == 0x01) := sub_one_beq v 0
  have hh : (v &&& 0x0F == 0) = (v.toNat % 16 == 0) := by revert v; decide
  have hpv : (v - 1 == 0x7F) = (v == 0x80) := sub_one_beq v 0x7F
  simp only [dec8F, hz, hh, hpv, flagBits, BitVec.getLsbD_or, BitVec.getLsbD_and, flagIf_bit, sz53_bits]
  simp

end

end Sys2Proof.Machine
end

section
/-! The 8-bit arithmetic and logic (R148 to R163): one state for each ALU operation on any source and one for each change of an
operand in place, so that a statement over every source is about that state alone. -/

namespace Sys2Proof.Machine

/-! ### The operations on A and a source operand -/

/-- What an ALU operation leaves (R151 to R158). -/
def State.alu (s : State) : AluOp → Source → State
  | .add => s.addA
  | .adc => s.adcA
  | .sub => s.subA
  | .sbc => s.sbcA
  | .and => s.andA
  | .xor => s.xorA
  | .or => s.orA
  | .cp => s.cpA

theorem exec_aluForm (op : AluOp) (src : Source) (s : State) : exec (aluForm op src) s = .next (s.alu op src) := by
  cases op <;> cases src <;> rfl

theorem carryNat_eq (s : State) : carryNat s = (carryOf s.f).toNat := by
  rw [carryNat, carryOf]; cases s.f.getLsbD 0 <;> rfl

theorem cpA_main_a (s : State) (src : Source) : (s.cpA src).main.a = s.main.a := by simp [State.cpA]

/-- Settles O35: ADD is ADC with no carry in, and both write the sum and its flags. -/
theorem addAndAdc : Obligations.AddAndAdc := by
  intro src s
  have hsum (cin : Bool) := toNat_add8 s.main.a (s.sourceVal src) cin
  have hflags (cin : Bool) := flagBits_add8F s.main.a (s.sourceVal src) cin
  rw [carryNat_eq]
  exact ⟨exec_next_and (exec_aluForm .add src s) ⟨hsum false, hflags false⟩,
    exec_next_and (exec_aluForm .adc src s) ⟨hsum _, hflags _⟩⟩

/-- Settles O36: SUB and NEG are SBC with no carry in, NEG from 0; CP writes its flags alone. -/
theorem subSbcCpAndNeg : Obligations.SubSbcCpAndNeg := by
  intro src s
  have hdiff (a v : Byte) : (sub8 a v false).toNat = (a.toNat + 256 - v.toNat) % 256 := by
    rw [toNat_sub8, Bool.toNat_false]; omega
  have hneg : (sub8 0 s.main.a false).toNat = (256 - s.main.a.toNat) % 256 := hdiff 0 s.main.a
  rw [carryNat_eq]
  exact ⟨exec_next_and (exec_aluForm .sub src s) ⟨hdiff _ _, flagBits_sub8F _ _ false⟩,
    exec_next_and (exec_aluForm .sbc src s) ⟨toNat_sub8 _ _ _, flagBits_sub8F _ _ _⟩,
    exec_next_and (exec_aluForm .cp src s) ⟨cpA_main_a s src, flagBits_cpF _ _⟩,
    fun y => exec_next_and rfl ⟨hneg, flagBits_sub8F 0 _ false⟩⟩

/-- Settles O37: the three share the flags of a result's parity, to which AND adds H; CPL is the exclusive or with all ones. -/
theorem andXorOrAndCpl : Obligations.AndXorOrAndCpl := by
  intro src s
  have hcpl : s.main.a ^^^ 0xFF = ~~~s.main.a := BitVec.xor_allOnes
  have hand (res : Byte) : flagBits (flagH ||| sz53p res) = parityFlags res true false := by
    rw [flagBits_flagH_or, flagBits_sz53p]; rfl
  exact ⟨exec_next_and (exec_aluForm .and src s) ⟨rfl, hand _⟩,
    exec_next_and (exec_aluForm .xor src s) ⟨rfl, flagBits_sz53p _⟩,
    exec_next_and (exec_aluForm .or src s) ⟨rfl, flagBits_sz53p _⟩,
    exec_next_and rfl ⟨hcpl, flagBits_cplF _ _⟩⟩

/-! ### INC and DEC of an operand in place -/

/-- What reading an operand and writing a byte back to it leave; an immediate is no destination (R159, R160). -/
def State.modifySource (s : State) (v : Byte) : Source → State
  | .reg r => s.setR8 r v
  | .half xy h => s.setHalf xy h v
  | .imm _ => s
  | .memHl => s.modifyByte s.hl v
  | .memXyd xy d => s.fetchDisp.modifyByte (s.eaXy xy d) v

@[simp] theorem fetchDisp_f (s : State) : s.fetchDisp.f = s.f := by simp [State.f]

section
variable {s : State} {m : Source} {i : Instr}

theorem exec_of_incForm (h : incForm m = some i) :
    exec i s = .next ((s.modifySource (s.sourceVal m + 1) m).setF (inc8F s.f (s.sourceVal m))) := by
  cases m with
  | memXyd xy d => cases h; rw [← fetchDisp_f s]; rfl
  | imm n => cases h
  | _ => cases h; rfl

theorem exec_of_decForm (h : decForm m = some i) :
    exec i s = .next ((s.modifySource (s.sourceVal m - 1) m).setF (dec8F s.f (s.sourceVal m))) := by
  cases m with
  | memXyd xy d => cases h; rw [← fetchDisp_f s]; rfl
  | imm n => cases h
  | _ => cases h; rfl

end

/-- The read and the delay before the write leave memory and the map (R159). -/
theorem stored_modifyByte {s u : State} (hplatform : u.platform = s.platform) (hmem : u.mem = s.mem) (hwf : s.mem.wf = true)
    (a : Word) (v : Byte) : Stored s (u.modifyByte a v) a v :=
  stored_memWrite_of_mem (by simpa using hplatform) (by simpa using hmem) hwf a v

/-- Settles O38: INC and DEC share the write of the operand, and each has its own flags. -/
theorem incAndDec : Obligations.IncAndDec := by
  intro m s hwf v written
  have hwritten (res f : Byte) : written ((s.modifySource res m).setF f) res := by
    cases m with
    | reg r => exact (setF_r8 _ f r).trans (setR8_r8 s res r)
    | half xy h => exact setHalf_half s res xy h
    | imm n => trivial
    | memHl => exact stored_modifyByte rfl rfl hwf _ _
    | memXyd xy d => exact stored_modifyByte (fetchDisp_platform s) (fetchDisp_mem s) hwf _ _
  exact ⟨fun i hi => exec_next_and (exec_of_incForm hi) ⟨hwritten _ _, flagBits_inc8F _ _⟩,
    fun i hi => exec_next_and (exec_of_decForm hi) ⟨hwritten _ _, flagBits_dec8F _ _⟩⟩

end Sys2Proof.Machine
end

section
/-! The 16-bit flag computations by arithmetic (R170 to R173): what the tables answer for bits 11 and 15 of a sum or a difference,
and F as its eight flags. -/

namespace Sys2Proof.Machine

theorem beyondSigned_sixteen (x : Int) : beyondSigned 16 x = decide (x < -32768 ∨ 32768 ≤ x) := by simp [beyondSigned]

@[simp] theorem high8_bit (res : Word) (k : Nat) : (high8 res).getLsbD k = (decide (k < 8) && res.getLsbD (8 + k)) :=
  BitVec.getLsbD_extractLsb' ..

section
variable (p v : Word) (cin : Bool) (f : Byte)

/-! ### Sum and difference -/

theorem toNat_add17 : (add17 p v cin).toNat = p.toNat + v.toNat + cin.toNat := by
  cases cin <;> simp [add17] <;> omega

theorem toNat_sub17 : (sub17 p v cin).toNat = (p.toNat + 131072 - v.toNat - cin.toNat) % 131072 := by
  cases cin <;> simp [sub17, BitVec.toNat_sub] <;> omega

theorem toNat_adc16 : (adc16 p v cin).toNat = (p.toNat + v.toNat + cin.toNat) % 65536 := by
  rw [adc16, BitVec.toNat_setWidth, toNat_add17]

theorem toNat_sbc16 : (sbc16 p v cin).toNat = (p.toNat + 131072 - v.toNat - cin.toNat) % 65536 := by
  rw [sbc16, BitVec.toNat_setWidth, toNat_sub17]; omega

/-- ADD is ADC with no carry in (R171). -/
theorem add16_eq_adc16 : add16 p v = adc16 p v false := rfl

theorem add17_carry : (add17 p v cin).getLsbD 16 = decide (65536 ≤ p.toNat + v.toNat + cin.toNat) := by
  have hcin := cin.toNat_le
  rw [Bool.eq_iff_iff, getLsbD_iff, toNat_add17, decide_eq_true_eq]; omega

theorem sub17_borrow : (sub17 p v cin).getLsbD 16 = decide (p.toNat < v.toNat + cin.toNat) := by
  have hcin := cin.toNat_le
  rw [Bool.eq_iff_iff, getLsbD_iff, toNat_sub17, decide_eq_true_eq]; omega

/-! ### Half-carry and overflow -/

theorem hcAdd_idx16h :
    hcAdd (idx16h p v (adc16 p v cin)) = flagIf (decide (4096 ≤ p.toNat % 4096 + v.toNat % 4096 + cin.toNat)) flagH := by
  have hcin := cin.toNat_le
  rw [idx16h, hcAdd_hashIndex]
  simp only [getLsbD_iff, toNat_adc16]
  congr 2; rw [eq_iff_iff]; omega

theorem hcSub_idx16h :
    hcSub (idx16h p v (sbc16 p v cin)) = flagIf (decide (p.toNat % 4096 < v.toNat % 4096 + cin.toNat)) flagH := by
  have hcin := cin.toNat_le
  rw [idx16h, hcSub_hashIndex]
  simp only [getLsbD_iff, toNat_sbc16]
  congr 2; rw [eq_iff_iff]; omega

theorem ovAdd_idx16v :
    ovAdd (idx16v p v (adc16 p v cin)) = flagIf (beyondSigned 16 (p.toInt + v.toInt + cin.toNat)) flagPV := by
  have hcin := cin.toNat_le
  rw [idx16v, ovAdd_hashIndex, beyondSigned_sixteen]
  simp only [getLsbD_iff, toNat_adc16, BitVec.toInt_eq_toNat_cond]
  congr 2; rw [eq_iff_iff]; omega

theorem ovSub_idx16v :
    ovSub (idx16v p v (sbc16 p v cin)) = flagIf (beyondSigned 16 (p.toInt - v.toInt - cin.toNat)) flagPV := by
  have hcin := cin.toNat_le
  rw [idx16v, ovSub_hashIndex, beyondSigned_sixteen]
  simp only [getLsbD_iff, toNat_sbc16, BitVec.toInt_eq_toNat_cond]
  congr 2; rw [eq_iff_iff]; omega

/-! ### F as its flags -/

theorem flagBits_add16F :
    flagBits (add16F f p v) =
      { flagBits f with
        x5 := (add16 p v).getLsbD 13, h := decide (4096 ≤ p.toNat % 4096 + v.toNat % 4096), x3 := (add16 p v).getLsbD 11,
        n := false, c := decide (65536 ≤ p.toNat + v.toNat) } := by
  simp only [add16F, add17_carry, add16_eq_adc16, hcAdd_idx16h, flagBits, BitVec.getLsbD_or, BitVec.getLsbD_and, flagIf_bit,
    high8_bit]
  simp

theorem flagBits_adc16F :
    flagBits (adc16F p v cin) =
      { s := (adc16 p v cin).getLsbD 15, z := adc16 p v cin == 0, x5 := (adc16 p v cin).getLsbD 13,
        h := decide (4096 ≤ p.toNat % 4096 + v.toNat % 4096 + cin.toNat), x3 := (adc16 p v cin).getLsbD 11,
        pv := beyondSigned 16 (p.toInt + v.toInt + cin.toNat), n := false,
        c := decide (65536 ≤ p.toNat + v.toNat + cin.toNat) } := by
  simp only [adc16F, add17_carry, hcAdd_idx16h, ovAdd_idx16v, flagBits, BitVec.getLsbD_or, BitVec.getLsbD_and, flagIf_bit,
    high8_bit]
  simp

theorem flagBits_sbc16F :
    flagBits (sbc16F p v cin) =
      { s := (sbc16 p v cin).getLsbD 15, z := sbc16 p v cin == 0, x5 := (sbc16 p v cin).getLsbD 13,
        h := decide (p.toNat % 4096 < v.toNat % 4096 + cin.toNat), x3 := (sbc16 p v cin).getLsbD 11,
        pv := beyondSigned 16 (p.toInt - v.toInt - cin.toNat), n := true,
        c := decide (p.toNat < v.toNat + cin.toNat) } := by
  simp only [sbc16F, sub17_borrow, hcSub_idx16h, ovSub_idx16v, flagBits, BitVec.getLsbD_or, BitVec.getLsbD_and, flagIf_bit,
    high8_bit]
  simp

end

end Sys2Proof.Machine
end

section
/-! The 16-bit arithmetic (R171 to R175): each form writes one pair, and INC and DEC leave F. -/

namespace Sys2Proof.Machine

section
variable (s : State) (v : Word)

@[simp] theorem noMreq_f (a : Word) (n : Nat) : (s.noMreq a n).f = s.f := by simp [State.f]

@[simp] theorem setXy_f (xy : XY) : (s.setXy xy v).f = s.f := by simp [State.f]

@[simp] theorem setSp_f : (s.setSp v).f = s.f := rfl

@[simp] theorem setRp_f (p : RP) : (s.setRp p v).f = s.f := by cases p <;> simp [State.setRp]

@[simp] theorem setF_xy (f : Byte) (xy : XY) : (s.setF f).xy xy = s.xy xy := by cases xy <;> rfl

end

/-- Settles O41: both ADD forms write the sum to their pair and its flags to F; INC and DEC write their pair alone. -/
theorem addIncAndDecOfPairs : Obligations.AddIncAndDecOfPairs := by
  intro s ok
  have hok {p v res : Word} {t : State} (hres : res = add16 p v) (hf : t.f = add16F s.f p v) : ok p v res t :=
    hres ▸ ⟨toNat_adc16 p v false, hf ▸ flagBits_add16F p v s.f⟩
  exact ⟨fun _ => exec_next_and rfl (hok (setHl_hl (s.noMreq s.ir 7) _) rfl),
    fun xy _ => exec_next_and rfl (hok ((setF_xy ((s.noMreq s.ir 7).setXy xy _) _ xy).trans (setXy_xy _ _ xy)) rfl),
    fun ss => ⟨exec_next_and rfl ⟨setRp_rp _ _ ss, by simp⟩, exec_next_and rfl ⟨setRp_rp _ _ ss, by simp⟩⟩,
    fun xy => ⟨exec_next_and rfl ⟨setXy_xy _ _ xy, by simp⟩, exec_next_and rfl ⟨setXy_xy _ _ xy, by simp⟩⟩⟩

/-- Settles O42: HL reads as the sum or the difference with the old carry, and F as its flags. -/
theorem adcAndSbcOfPairs : Obligations.AdcAndSbcOfPairs := by
  intro ss s
  rw [carryNat_eq]
  refine ⟨exec_next_and rfl ?_, exec_next_and rfl ?_⟩ <;> rw [setF_hl, setHl_hl]
  · exact ⟨toNat_adc16 _ _ _, flagBits_adc16F _ _ _⟩
  · exact ⟨toNat_sbc16 _ _ _, flagBits_sbc16F _ _ _⟩

end Sys2Proof.Machine
end

section
/-! The shifts, the bit changes and the nibble rotates by arithmetic (R180 to R200): the result, the bit shifted out, and F as its
eight flags; and the laws of R201 on bytes. -/

namespace Sys2Proof.Machine

/-! ### Shifts (R180) -/

/-- The model's shift is the arithmetic one, operation by operation. -/
theorem shiftByArithmetic_eq (op : Shift) (v : Byte) (c : Bool) : shiftByArithmetic op v c = (op.result v c, op.carry v) := by
  cases op <;> revert v c <;> decide

theorem rlc_result (v : Byte) (c : Bool) : Shift.rlc.result v c = v.rotateLeft 1 :=
  congrArg Prod.fst (shiftByArithmetic_eq .rlc v c).symm

/-- A rotation by the width is none (R201). -/
theorem rotateLeft_one_iterate_eight (v : Byte) : (fun x : Byte => x.rotateLeft 1)^[8] v = v := by
  revert v; decide

/-! ### F as its flags -/

section
variable (op : Shift) (f v : Byte) (c : Bool)

theorem flagBits_flagC_or_sz53p : flagBits (flagIf c flagC ||| sz53p v) = parityFlags v false c := by
  simp only [sz53p, parity_eq_flagIf, flagBits, BitVec.getLsbD_or, flagIf_bit, sz53_bits, parityFlags]
  simp

theorem flagBits_shiftFlags : flagBits (op.flags v c) = parityFlags (op.result v c) false (op.carry v) :=
  flagBits_flagC_or_sz53p _ _

theorem flagBits_accFlags :
    flagBits (op.accFlags f v) =
      { flagBits f with
        x5 := (op.result v (carryOf f)).getLsbD 5, h := false, x3 := (op.result v (carryOf f)).getLsbD 3, n := false,
        c := op.carry v } := by
  simp only [Shift.accFlags, flagBits, BitVec.getLsbD_or, BitVec.getLsbD_and, flagIf_bit]
  simp

theorem flagBits_keepCSz53p : flagBits (keepCSz53p f v) = parityFlags v false (f.getLsbD 0) := by
  have hkept : f &&& flagC = flagIf (f.getLsbD 0) flagC := by revert f; decide
  rw [keepCSz53p, hkept, flagBits_flagC_or_sz53p]

end

/-! ### One bit of a byte (R196, R197, R201) -/

section
variable (b : BitVec 3) (v : Byte)

theorem and_bitMask : v &&& bitMask b = if v.getLsbD b.toNat then bitMask b else 0 := BitVec.and_twoPow v b.toNat

theorem toNat_bitMask : (bitMask b).toNat = 2 ^ b.toNat := by
  revert b; decide

/-- RES takes the bit's weight away where the bit is 1. -/
theorem toNat_resBit_add : (resBit b v).toNat + (if v.getLsbD b.toNat then 2 ^ b.toNat else 0) = v.toNat := by
  have hbit : (v &&& bitMask b).toNat = if v.getLsbD b.toNat then 2 ^ b.toNat else 0 := by
    rw [and_bitMask]; split
    · exact toNat_bitMask b
    · rfl
  have hdisjoint : resBit b v &&& (v &&& bitMask b) = 0#8 := by
    ext k hk; cases hmask : (bitMask b)[k] <;> simp [resBit, hmask]
  have hwhole : resBit b v ||| (v &&& bitMask b) = v := by
    ext k hk; cases hmask : (bitMask b)[k] <;> simp [resBit, hmask]
  rw [← hbit, ← BitVec.toNat_add_of_and_eq_zero hdisjoint, BitVec.add_eq_or_of_and_eq_zero _ _ hdisjoint, hwhole]

/-- SET adds the bit's weight where the bit is 0. -/
theorem toNat_setBit : (setBit b v).toNat = v.toNat + if v.getLsbD b.toNat then 0 else 2 ^ b.toNat := by
  by_cases hbit : v.getLsbD b.toNat = true
  · have hmasked : v &&& bitMask b = bitMask b := by rw [and_bitMask, if_pos hbit]
    have hsame : setBit b v = v := by
      rw [setBit, ← hmasked]
      ext k hk; cases hv : v[k] <;> simp [hv]
    rw [hsame, if_pos hbit, Nat.add_zero]
  · have hmasked : v &&& bitMask b = 0#8 := by rw [and_bitMask, if_neg hbit]; rfl
    rw [setBit, ← BitVec.add_eq_or_of_and_eq_zero _ _ hmasked, BitVec.toNat_add_of_and_eq_zero hmasked, toNat_bitMask,
      if_neg hbit]

theorem resBit_eq_ofNat : resBit b v = BitVec.ofNat 8 (v.toNat - if v.getLsbD b.toNat then 2 ^ b.toNat else 0) := by
  rw [← Nat.eq_sub_of_add_eq (toNat_resBit_add b v), BitVec.ofNat_toNat, BitVec.setWidth_eq]

theorem setBit_eq_ofNat : setBit b v = BitVec.ofNat 8 (v.toNat + if v.getLsbD b.toNat then 0 else 2 ^ b.toNat) := by
  rw [← toNat_setBit, BitVec.ofNat_toNat, BitVec.setWidth_eq]

theorem resBit_resBit : resBit b (resBit b v) = resBit b v := by
  rw [resBit, resBit, BitVec.and_assoc, BitVec.and_self]

theorem setBit_setBit : setBit b (setBit b v) = setBit b v := by
  rw [setBit, setBit, BitVec.or_assoc, BitVec.or_self]

theorem resBit_setBit : resBit b (setBit b v) = resBit b v := by
  ext k hk
  cases hmask : (bitMask b)[k] <;> simp [resBit, setBit, hmask]

theorem setBit_resBit : setBit b (resBit b v) = setBit b v := by
  ext k hk
  cases hmask : (bitMask b)[k] <;> simp [resBit, setBit, hmask]

end

/-! ### Nibbles (R199, R200) -/

section
variable (v w : Byte)

theorem toNat_and_0F : (v &&& 0x0F).toNat = v.toNat % 16 := by
  revert v; decide

theorem toNat_shiftRight_four : (v >>> 4).toNat = v.toNat / 16 := by
  rw [BitVec.toNat_ushiftRight, Nat.shiftRight_eq_div_pow]

/-- A digit put behind the low digit of a byte. -/
theorem toNat_shiftLeft_four_or (h : w.toNat < 16) : (v <<< 4 ||| w).toNat = v.toNat % 16 * 16 + w.toNat := by
  have hhi : (v <<< 4).toNat = (v.toNat % 16) <<< 4 := by
    rw [BitVec.toNat_shiftLeft, Nat.shiftLeft_eq, Nat.shiftLeft_eq]; omega
  rw [BitVec.toNat_or, hhi, ← Nat.shiftLeft_add_eq_or_of_lt h, Nat.shiftLeft_eq]

theorem shiftLeft_four_or_eq_ofNat (h : w.toNat < 16) : v <<< 4 ||| w = BitVec.ofNat 8 (v.toNat % 16 * 16 + w.toNat) := by
  rw [← toNat_shiftLeft_four_or v w h, BitVec.ofNat_toNat, BitVec.setWidth_eq]

/-- A digit put in place of the low digit of a byte. -/
theorem toNat_and_F0_or (h : w.toNat < 16) : ((v &&& 0xF0) ||| w).toNat = v.toNat / 16 * 16 + w.toNat := by
  have hhi : v &&& (0xF0 : Byte) = (v >>> 4) <<< 4 := by revert v; decide
  rw [hhi, toNat_shiftLeft_four_or _ _ h, toNat_shiftRight_four]
  omega

end

end Sys2Proof.Machine
end

section
/-! The rotates, the shifts and the bit instructions (R181 to R201): what the operand and F hold afterwards. -/

namespace Sys2Proof.Machine

section
variable (s : State)

@[simp] theorem modifyByte_f (a : Word) (v : Byte) : (s.modifyByte a v).f = s.f := by simp [State.f]

@[simp] theorem enterIndexedCb_f (xy : XY) (d : Byte) : (s.enterIndexedCb xy d).f = s.f := by simp [State.f]

/-! ### One state for each family of forms -/

theorem exec_shiftRForm (op : Shift) (r : R8) : exec (shiftRForm op r) s = .next (s.shiftReg op r) := by
  cases op <;> rfl

theorem exec_shiftMemHlForm (op : Shift) : exec (shiftMemHlForm op) s = .next (s.shiftMem op s.hl) := by
  cases op <;> rfl

theorem exec_shiftXydForm (op : Shift) (xy : XY) (d : Byte) :
    exec (shiftXydForm op xy d) s = .next (s.shiftIndexed op xy d) := by
  cases op <;> rfl

theorem shiftReg_r8 (op : Shift) (r : R8) : (s.shiftReg op r).r8 r = op.result (s.r8 r) (carryOf s.f) :=
  (setF_r8 _ _ r).trans (setR8_r8 s _ r)

theorem shiftReg_rlc_r8 (r : R8) : (s.shiftReg .rlc r).r8 r = (s.r8 r).rotateLeft 1 :=
  (shiftReg_r8 s .rlc r).trans (rlc_result _ _)

/-! ### The byte at XY + d, after the path to the sub-opcode (R91) -/

section
variable (xy : XY) (d : Byte)

theorem shiftIndexed_eq (op : Shift) : s.shiftIndexed op xy d = (s.enterIndexedCb xy d).shiftMem op (s.eaXy xy d) := by
  rw [← enterIndexedCb_scr s xy d]; rfl

theorem changeIndexed_eq (g : Byte → Byte) : s.changeIndexed g xy d = (s.enterIndexedCb xy d).changeMem g (s.eaXy xy d) := by
  rw [← enterIndexedCb_scr s xy d]; rfl

variable {s} (hwf : s.mem.wf = true)
include hwf

/-- The path leaves memory and the map as they were, so what follows is a store as in any other form. -/
theorem stored_modifyIndexed (v : Byte) : Stored s ((s.enterIndexedCb xy d).modifyByte (s.eaXy xy d) v) (s.eaXy xy d) v :=
  stored_modifyByte (enterIndexedCb_platform s xy d) (enterIndexedCb_mem s xy d) hwf _ v

theorem shiftIndexed_spec (op : Shift) :
    Stored s (s.shiftIndexed op xy d) (s.eaXy xy d)
        (op.result ((s.enterIndexedCb xy d).byteAt (s.eaXy xy d)) (carryOf s.f))
      ∧ (s.shiftIndexed op xy d).scr = s.eaXy xy d
      ∧ (s.shiftIndexed op xy d).f = op.flags ((s.enterIndexedCb xy d).byteAt (s.eaXy xy d)) (carryOf s.f) := by
  rw [shiftIndexed_eq, ← enterIndexedCb_f s xy d]
  exact ⟨stored_modifyIndexed xy d hwf _, by simp [State.shiftMem], rfl⟩

theorem changeIndexed_spec (g : Byte → Byte) :
    Stored s (s.changeIndexed g xy d) (s.eaXy xy d) (g ((s.enterIndexedCb xy d).byteAt (s.eaXy xy d)))
      ∧ (s.changeIndexed g xy d).scr = s.eaXy xy d ∧ (s.changeIndexed g xy d).f = s.f := by
  rw [changeIndexed_eq]
  exact ⟨stored_modifyIndexed xy d hwf _, by simp [State.changeMem], by simp [State.changeMem]⟩

end

/-- What RLD and RRD leave, for the bytes they write to (HL) and to A (R199, R200). -/
theorem nibbleRotate_spec (hwf : s.mem.wf = true) {mem acc : Byte} {m a : Nat} (hm : mem = BitVec.ofNat 8 m)
    (ha : acc.toNat = a) :
    Stored s (s.nibbleRotate mem acc) s.hl (BitVec.ofNat 8 m) ∧ (s.nibbleRotate mem acc).main.a.toNat = a
      ∧ flagBits (s.nibbleRotate mem acc).f = parityFlags (s.nibbleRotate mem acc).main.a false (s.f.getLsbD 0) := by
  have hstored : Stored s (s.nibbleRotate mem acc) s.hl mem :=
    stored_memWrite_of_mem (u := (s.afterRead s.hl).noMreq s.hl 4) (by simp) (by simp) hwf s.hl mem
  exact ⟨hm ▸ hstored, ha, flagBits_keepCSz53p _ _⟩

end

/-! ### The statements -/

/-- Settles O43: each form is one rotate of A, whose result and flags are the arithmetic ones. -/
theorem accumulatorRotates : Obligations.AccumulatorRotates := by
  intro p hp s r
  have hexec : exec p.1 s = .next (s.rotateA p.2) := by
    simp only [List.mem_cons, List.not_mem_nil, or_false] at hp
    rcases hp with rfl | rfl | rfl | rfl <;> rfl
  have hr : r = (p.2.result s.main.a (carryOf s.f), p.2.carry s.main.a) := shiftByArithmetic_eq _ _ _
  rw [hr]
  exact exec_next_and hexec ⟨rfl, flagBits_accFlags _ _ _⟩

/-- Settles O44: a shift of any operand writes the result to it and the flags of the result to F. -/
theorem shiftsOfRegistersAndMemory : Obligations.ShiftsOfRegistersAndMemory := by
  intro op s hwf
  simp only [shiftByArithmetic_eq]
  refine ⟨fun r => exec_next_and (exec_shiftRForm s op r) ⟨shiftReg_r8 s op r, flagBits_shiftFlags _ _ _⟩,
    exec_next_and (exec_shiftMemHlForm s op) ⟨stored_modifyByte rfl rfl hwf _ _, flagBits_shiftFlags _ _ _⟩,
    fun xy d => exec_next_and (exec_shiftXydForm s op xy d) ?_⟩
  obtain ⟨hstored, hscr, hf⟩ := shiftIndexed_spec xy d hwf op
  exact ⟨hstored, hscr, hf ▸ flagBits_shiftFlags _ _ _⟩

/-- Settles O45: on any operand, RES and SET write the changed byte and leave F. -/
theorem resetAndSetOfBits : Obligations.ResetAndSetOfBits := by
  intro b s hwf res set
  have hres : res = resBit b := funext fun v => (resBit_eq_ofNat b v).symm
  have hset : set = setBit b := funext fun v => (setBit_eq_ofNat b v).symm
  have hreg (g : Byte → Byte) (r : R8) : (s.setR8 r (g (s.r8 r))).r8 r = g (s.r8 r) ∧ (s.setR8 r (g (s.r8 r))).f = s.f :=
    ⟨setR8_r8 s _ r, setR8_f s _ r⟩
  have hmem (g : Byte → Byte) : Stored s (s.changeMem g s.hl) s.hl (g (s.byteAt s.hl)) ∧ (s.changeMem g s.hl).f = s.f :=
    ⟨stored_modifyByte rfl rfl hwf _ _, modifyByte_f s _ _⟩
  rw [hres, hset]
  exact ⟨fun r => ⟨exec_next_and rfl (hreg _ r), exec_next_and rfl (hreg _ r)⟩,
    exec_next_and rfl (hmem _), exec_next_and rfl (hmem _),
    fun xy d => ⟨exec_next_and rfl (changeIndexed_spec xy d hwf _), exec_next_and rfl (changeIndexed_spec xy d hwf _)⟩⟩

/-- Settles O48: each byte written is two digits of the three. -/
theorem nibbleRotates : Obligations.NibbleRotates := by
  intro s hwf a m
  have hlow (v : Byte) : (v &&& 0x0F).toNat < 16 := by rw [toNat_and_0F]; omega
  have hhigh (v : Byte) : (v >>> 4).toNat < 16 := by rw [toNat_shiftRight_four]; omega
  refine ⟨exec_next_and rfl (nibbleRotate_spec s hwf ?_ ?_), exec_next_and rfl (nibbleRotate_spec s hwf ?_ ?_)⟩
  · rw [shiftLeft_four_or_eq_ofNat _ _ (hlow _), toNat_and_0F]
  · exact (toNat_and_F0_or _ _ (hhigh _)).trans (by rw [toNat_shiftRight_four])
  · rw [shiftLeft_four_or_eq_ofNat _ _ (hhigh _), toNat_shiftRight_four]
  · rw [toNat_and_F0_or _ _ (hlow _), toNat_and_0F]

/-- Settles O49: each instruction is its operation on the byte of the register, where the laws are those of bytes. -/
theorem rotateAndBitLaws : Obligations.RotateAndBitLaws := by
  intro r b s
  have hrlc (t : State) : exec (.rlcR r) t = .next (t.shiftReg .rlc r) := rfl
  have hres (t : State) : exec (.resBR b r) t = .next (t.setR8 r (resBit b (t.r8 r))) := rfl
  have hset (t : State) : exec (.setBR b r) t = .next (t.setR8 r (setBit b (t.r8 r))) := rfl
  refine ⟨⟨_, _, _, _, _, _, _, _, hrlc _, hrlc _, hrlc _, hrlc _, hrlc _, hrlc _, hrlc _, hrlc _, ?_⟩,
    ⟨_, rfl, setF_r8 s _⟩, _, _, _, _, _, _, hres _, hset _, hres _, hres _, hset _, hset _, ?_⟩
  · simp only [shiftReg_rlc_r8]
    exact rotateLeft_one_iterate_eight _
  · simp only [setR8_r8, resBit_resBit, setBit_setBit, resBit_setBit, setBit_resBit, and_self]

end Sys2Proof.Machine
end

section
/-! The calls, the restarts and the returns (R217 to R221, R223): what the stack holds and where PC goes. -/

namespace Sys2Proof.Machine

/-- The two stores of a push are those of a word at the new SP (R53, R58). -/
theorem storedWord_push {s u : State} (hplatform : u.platform = s.platform) (hmem : u.mem = s.mem) (hwf : s.mem.wf = true)
    (hsp : u.sp = s.sp) (v : Word) : StoredWord s (u.push v) (s.sp - 2) v := by
  obtain ⟨hhi, hlo⟩ := stored_push hplatform hmem hwf hsp v
  have hnext : s.sp - 2 + 1 = s.sp - 1 := by bv_omega
  exact ⟨hlo, hnext ▸ hhi⟩

/-- What a read of a word gives depends on what a read of a byte depends on. -/
theorem readWord_congr {s u : State} (hplatform : u.platform = s.platform) (hmem : u.mem = s.mem) (hdraws : u.draws = s.draws)
    (hanswers : u.answers = s.answers) (a : Word) : u.readWord a = s.readWord a := by
  obtain ⟨hdraws', hanswers'⟩ := drawAt_congr hplatform hdraws hanswers a
  have hhi : (u.afterRead a).byteAt (a + 1) = (s.afterRead a).byteAt (a + 1) :=
    byteAt_congr (by simpa) (by simpa) (by simpa) (by simpa) _
  rw [State.readWord, State.readWord, hhi, byteAt_congr hplatform hmem hdraws hanswers]

section
variable (s : State)

/-- The delay before the pop leaves F, on which the condition of RET cc rests (R220). -/
theorem noMreq_cond (a : Word) (n : Nat) (cc : Cond) : (s.noMreq a n).cond cc = s.cond cc := by
  cases cc <;> simp [State.cond]

@[simp] theorem popPc_sp : s.popPc.sp = s.sp + 2 := by simp [State.popPc]

@[simp] theorem popPc_iff1 : s.popPc.iff1 = s.iff1 := by simp [State.popPc]

@[simp] theorem popPc_pc : s.popPc.pc = s.readWord s.sp := rfl

/-- The targets of RST are the multiples of 8 below 64 (R82, R223). -/
theorem toNat_rstTarget (p : BitVec 3) : (rstTarget p).toNat = 8 * p.toNat := by
  revert p; decide

end

/-- Settles O51: every form that jumps is a push of the address after its bytes, from a state with the old SP and memory. -/
theorem callsAndRestarts : Obligations.CallsAndRestarts := by
  intro s hwf pushed
  have hpush {u : State} (hplatform : u.platform = s.platform) (hmem : u.mem = s.mem) (hsp : u.sp = s.sp) (ret target : Word) :
      pushed ((u.push ret).setPc target) ret :=
    ⟨by simp [hsp], storedWord_push hplatform hmem hwf hsp ret⟩
  have hcall (nn : Word) : pushed (s.fetchImm2.call nn) (s.pc + 2) :=
    fetchImm2_pc s ▸ hpush (by simp) (by simp) (by simp) _ nn
  refine ⟨fun nn => exec_next_and rfl ⟨hcall nn, rfl⟩, fun cc nn => exec_next_and rfl ?_,
    fun p => exec_next_and rfl ⟨hpush (by simp) (by simp) (by simp) s.pc _, toNat_rstTarget p⟩⟩
  by_cases htaken : s.cond cc = true
  · simp only [if_pos htaken]
    exact ⟨hcall nn, rfl⟩
  · simp only [if_neg htaken]
    exact ⟨fetchImm2_sp s, fetchImm2_mem s, fetchImm2_pc s⟩

/-- Settles O52: every form that returns is one pop of PC, from a state that reads memory as the old one does;
for RETN, IFF1 has first taken IFF2. -/
theorem returns : Obligations.Returns := by
  intro s popped
  have hpop {u : State} (hsp : u.sp = s.sp) (hread : u.readWord s.sp = s.readWord s.sp) : popped u.popPc :=
    ⟨by simp [hsp], by rw [popPc_pc, hsp, hread]; exact toNat_readWord s s.sp⟩
  have hiffs : (s.setIffs s.iff2 s.iff2).readWord s.sp = s.readWord s.sp :=
    readWord_congr (by simp) (by simp) (by simp) (by simp) _
  refine ⟨exec_next_and rfl (hpop rfl rfl), fun cc => exec_next_and rfl ?_,
    fun _ => exec_next_and rfl ⟨hpop (u := s.setIffs s.iff2 s.iff2) rfl hiffs, popPc_iff1 _⟩⟩
  by_cases htaken : s.cond cc = true
  · simp only [noMreq_cond, if_pos htaken]
    exact hpop (by simp) (readWord_congr (by simp) (by simp) (by simp) (by simp) _)
  · simp only [noMreq_cond, if_neg htaken]
    exact ⟨noMreq_sp s s.ir 1, noMreq_pc s s.ir 1⟩

end Sys2Proof.Machine
end

section
/-! What keeps the invariant of a run: canonical memory, a legal IM, equal flip-flops (R35, R259). -/

namespace Sys2Proof.Machine

/-! ### The cells no operand field names -/

@[simp] theorem status_not_mem_rpCells (p : RP) :
    .im ∉ rpCells p ∧ .iff1 ∉ rpCells p ∧ .iff2 ∉ rpCells p ∧ .r ∉ rpCells p := by
  cases p <;> decide

@[simp] theorem status_not_mem_rp2Cells (p : RP2) :
    .im ∉ rp2Cells p ∧ .iff1 ∉ rp2Cells p ∧ .iff2 ∉ rp2Cells p ∧ .r ∉ rp2Cells p := by
  cases p <;> decide

@[simp] theorem status_ne_xregCell (xy : XY) (r : XReg) :
    .im ≠ xregCell xy r ∧ .iff1 ≠ xregCell xy r ∧ .iff2 ≠ xregCell xy r ∧ .r ≠ xregCell xy r := by
  cases r <;> simp [xregCell]

section
variable {i : Instr} {s t : State} (h : exec i s = .next t)
include h

/-- Only IM 0, IM 1 and IM 2 write IM (R263 to R265). -/
theorem exec_im_le (him : s.im ≤ 2) : t.im ≤ 2 := by
  cases i with
  | im0 y | im1 y | im2 y => cases h; simp
  | _ =>
    have hsame : t.im = s.im := exec_cells _ _ _ h .im (by simp [cellsWritten]) (by simp) (by simp)
    exact hsame ▸ him

/-- EI, DI and the returns from an interrupt leave both flip-flops alike, and nothing else writes them (R221, R257, R258). -/
theorem exec_iffs (hiffs : s.iff1 = s.iff2) : t.iff1 = t.iff2 := by
  cases i with
  | di | ei | retn y | reti => cases h; simp [State.returnFromInterrupt]
  | _ =>
    have h1 : t.iff1.toNat = s.iff1.toNat := exec_cells _ _ _ h .iff1 (by simp [cellsWritten]) (by simp) (by simp)
    have h2 : t.iff2.toNat = s.iff2.toNat := exec_cells _ _ _ h .iff2 (by simp [cellsWritten]) (by simp) (by simp)
    exact Function.LeftInverse.injective Bool.ofNat_toNat (h1.trans (hiffs ▸ h2.symm))

theorem exec_inv (hinv : Inv s) : Inv t := by
  obtain ⟨hwf, him, hiffs⟩ := hinv
  exact ⟨exec_wf i s t h hwf, exec_im_le h him, exec_iffs h hiffs⟩

end

/-- The invariant speaks of four fields alone. -/
theorem Inv.congr {s t : State} (h : Inv s) (hmem : t.mem = s.mem) (him : t.im = s.im) (h1 : t.iff1 = s.iff1)
    (h2 : t.iff2 = s.iff2) : Inv t := by
  rw [Inv, hmem, him, h1, h2]; exact h

/-- Settles O15: a next state is the idle step's, or what a leaf leaves of a state that the fetches have made. -/
theorem stepKeepsInv : Obligations.StepKeepsInv := by
  intro s t hinv hstep
  obtain ⟨-, -, ⟨-, rfl⟩ | ⟨-, m, i, u, -, -, hexec, rfl⟩⟩ := step_cases hstep
  · exact hinv.congr (by simp [idleStep]) (by simp [idleStep]) (by simp [idleStep]) (by simp [idleStep])
  · have hfetched : Inv ((s.fetchOps m).fetchOps (opcodeFetches i)) := hinv.congr (by simp) (by simp) (by simp) (by simp)
    exact (exec_inv hexec hfetched).congr rfl rfl rfl rfl

end Sys2Proof.Machine
end

section
/-! One step at a chain of falling bytes and the leaf after it, the window a step reads, and the walk that does not end (R68, R73,
R89 to R94, R290, R291). -/

namespace Sys2Proof.Machine

section
variable {s : State} {n : Nat} {i : Instr}

/-- A chain of falling bytes and the leaf after it are one step; a leaf at PC is the chain of none. -/
theorem step_chain (hrun : Running s) (hchain : ∀ k, k < n → AtFallback (s.fetchOps k)) (hleaf : AtLeaf (s.fetchOps n) i) :
    ∃ t, exec i ((s.fetchOps n).fetchOps (opcodeFetches i)) = .next t ∧ step s = .next (t.setEiDelay (i == .ei)) := by
  obtain ⟨t, ht⟩ := exec_next i ((s.fetchOps n).fetchOps (opcodeFetches i))
  exact ⟨t, ht, by rw [step_running hrun, dispatch_chain n _ s hchain, dispatch_leaf _ hleaf, ht]; rfl⟩

theorem step_leaf (hrun : Running s) (hleaf : AtLeaf s i) :
    ∃ t, exec i (s.fetchOps (opcodeFetches i)) = .next t ∧ step s = .next (t.setEiDelay (i == .ei)) :=
  step_chain (n := 0) hrun (fun k hk => absurd hk k.not_lt_zero) hleaf

/-- Four bytes decode (R100), and what they decode to falls back or is a leaf. -/
theorem exists_atLeaf (h : ¬ AtFallback s) : ∃ i, AtLeaf s i := by
  obtain ⟨i, rest, hd⟩ := (decode_reads s.fetchWindow).ok_of_length (Nat.le_refl 4)
  refine ⟨i, Bool.eq_false_iff.mpr fun hprefix => ?_, rest, hd⟩
  obtain ⟨xy, rfl⟩ := isXyPrefix_cases hprefix
  exact h ⟨xy, rest, hd⟩

end

/-- Settles O6. -/
theorem prefixChainIsOneStep : Obligations.PrefixChainIsOneStep := fun _ _ _ => step_chain

/-- Settles O7: the first byte that does not fall back is a leaf; where there is none the walk has no value. -/
theorem everyStepCompletes : Obligations.EveryStepCompletes := by
  intro s hrun
  by_cases hleaf : ∃ k, ¬ AtFallback (s.fetchOps k)
  · classical
    obtain ⟨i, hi⟩ := exists_atLeaf (Nat.find_spec hleaf)
    obtain ⟨t, -, hstep⟩ := step_chain hrun (fun k hk => not_not.mp (Nat.find_min hleaf hk)) hi
    exact .inl ⟨⟨_, hstep⟩, hleaf⟩
  · have hall : ∀ k, AtFallback (s.fetchOps k) := fun k => not_not.mp fun hk => hleaf ⟨k, hk⟩
    exact .inr ⟨by rw [step_running hrun, dispatch_rounds, walk_endless hall]; rfl, hall⟩

/-! ### The window and the draws of its bytes (R60, R68) -/

section
variable (s : State)

theorem drawAt_draws (a : Word) : (s.drawAt a).draws = s.draws + if s.kindAt a = .device then 1 else 0 := by
  unfold State.drawAt; split <;> simp [*]

theorem drawAt_answers (a : Word) : (s.drawAt a).answers = if s.kindAt a = .device then s.answers.tail else s.answers := by
  unfold State.drawAt; split <;> simp [*]

theorem fetchWindow_eq_fetchOps :
    s.fetchWindow = [s.byteAt s.pc, (s.fetchOps 1).byteAt (s.pc + 1), (s.fetchOps 2).byteAt (s.pc + 2),
      (s.fetchOps 3).byteAt (s.pc + 3)] := by
  have hnext (m k : Nat) : bytesFrom (m + 1) (s.fetchOps k) (s.fetchOps k).pc =
      (s.fetchOps k).byteAt (s.pc + BitVec.ofNat 16 k) :: bytesFrom m (s.fetchOps (k + 1)) (s.fetchOps (k + 1)).pc := by
    rw [bytesFrom_pc, fetchOps_pc]; rfl
  have hfirst : s.byteAt s.pc = (s.fetchOps 0).byteAt (s.pc + BitVec.ofNat 16 0) := by
    rw [BitVec.add_zero]; rfl
  rw [hfirst]
  exact (hnext 3 0).trans (congrArg _ ((hnext 2 1).trans (congrArg _ ((hnext 1 2).trans (congrArg _ (hnext 0 3))))))

/-- Where the bytes fetched are no device's, the window is the contents of memory. -/
theorem fetchWindow_plain (h : ∀ a ∈ [s.pc, s.pc + 1, s.pc + 2, s.pc + 3], s.kindAt a ≠ .device) :
    s.fetchWindow = [s.peek s.pc, s.peek (s.pc + 1), s.peek (s.pc + 2), s.peek (s.pc + 3)] := by
  have hbyte (k : Nat) {a : Word} (ha : s.kindAt a ≠ .device) : (s.fetchOps k).byteAt a = s.peek a :=
    (byteAt_plain _ (by rwa [kindAt_fetchOps])).trans (peek_congr (fetchOps_mem s k) a)
  rw [fetchWindow_eq_fetchOps, hbyte 1 (h _ (by simp)), hbyte 2 (h _ (by simp)), hbyte 3 (h _ (by simp)),
    byteAt_plain s (h _ (by simp))]

/-- Every kind of fetch moves PC and draws alike. -/
theorem fetchWindow_congr {s t : State} (hpc : t.pc = s.pc) (hplatform : t.platform = s.platform) (hmem : t.mem = s.mem)
    (hdraws : t.draws = s.draws) (hanswers : t.answers = s.answers) : t.fetchWindow = s.fetchWindow := by
  rw [State.fetchWindow, State.fetchWindow, hpc, bytesFrom_congr 4 hplatform hmem hdraws hanswers]

/-- The fetch at PC is a draw where PC is a device's, and takes the answer lined up. -/
theorem fetchOps_succ_draws (n : Nat) : (s.fetchOps (n + 1)).draws =
    (s.fetchOps n).draws + if s.kindAt (s.pc + BitVec.ofNat 16 n) = .device then 1 else 0 := by
  rw [← fetchOps_pc, ← kindAt_fetchOps s n, ← drawAt_draws, State.fetchOps, fetchOp_draws]

theorem fetchOps_succ_answers (n : Nat) : (s.fetchOps (n + 1)).answers =
    if s.kindAt (s.pc + BitVec.ofNat 16 n) = .device then (s.fetchOps n).answers.tail else (s.fetchOps n).answers := by
  rw [← fetchOps_pc, ← kindAt_fetchOps s n, ← drawAt_answers, State.fetchOps, fetchOp_answers]

end

/-- Settles O5. -/
theorem stepRunsTheDecodedInstruction : Obligations.StepRunsTheDecodedInstruction := by
  refine ⟨fetchWindow_eq_fetchOps, fetchWindow_plain, fun s n => ⟨fetchOps_succ_draws s n, fetchOps_succ_answers s n⟩,
    fun s => ⟨?_, ?_⟩, fun s i => step_leaf⟩
  · exact fetchWindow_congr (by simp) (by simp) (by simp) (by simp) (by simp)
  · obtain ⟨hdraws, hanswers⟩ := drawAt_congr (s := s) (t := s.tick .contendRead s.pc 3) (by simp) (by simp) (by simp) s.pc
    exact fetchWindow_congr (by simp [State.fetchSubOp]) (by simp [State.fetchSubOp]) (by simp [State.fetchSubOp])
      (by simp [State.fetchSubOp, hdraws]) (by simp [State.fetchSubOp, hanswers])

end Sys2Proof.Machine
end

section
/-! The decoder against the encoder (R93 to R100). What every slot of a region says of the bytes that lead to it gives the way back
from the bytes; what an instruction's bytes lead to gives the way there. -/

namespace Sys2Proof

/-- What the slot of a row becomes at two bytes that follow, and which of them it takes as its immediates. -/
def Slot.at (a b : Byte) : Slot → Option (Instr × List Byte)
  | .leaf i => some (i, [])
  | .imm8 f => some (f a, [a])
  | .imm16 f => some (f (mkWord b a), nnBytes (mkWord b a))
  | .imm8x2 f => some (f a b, [a, b])
  | .toCb | .toEd | .toXy _ | .fallback | .hole => none

/-- The instruction that the slot becomes is well formed, and is encoded as the opcode bytes that lead to the slot and its immediates. -/
def Slot.Encodes (opcode : List Byte) (slot : Slot) : Prop :=
  ∀ a b, (slot.at a b).map (fun (i, _) => (i.wf, encode i)) = (slot.at a b).map fun (_, imms) => (true, opcode ++ imms)

theorem Slot.Encodes.at {slot : Slot} {opcode imms : List Byte} {a b : Byte} {i : Instr} (h : slot.Encodes opcode)
    (hat : slot.at a b = some (i, imms)) : i.wf = true ∧ encode i = opcode ++ imms := by
  simpa [hat] using h a b

/-- What a walk that ended at a slot has read there. -/
theorem finish_ok {slot : Slot} {bs rest : List Byte} {region : TableRegion} {op : Byte} {i : Instr}
    (hok : slot.finish region op bs = .ok (i, rest)) : ∃ a b imms, slot.at a b = some (i, imms) ∧ bs = imms ++ rest := by
  unfold Slot.finish at hok
  split at hok
  all_goals cases hok
  · exact ⟨0, 0, _, rfl, rfl⟩
  · exact ⟨_, 0, _, rfl, rfl⟩
  · exact ⟨_, _, _, rfl, by simp [nnBytes]⟩
  · exact ⟨_, _, _, rfl, rfl⟩

/-! ### From the bytes to the instruction and back: the maps of the regions, slot by slot -/

theorem plainSlot_encodes (op : Byte) : (plainSlot op).Encodes [op] := by
  fin_cases op <;> exact fun _ _ => rfl

theorem cbSlot_encodes (op : Byte) : (cbSlot op).Encodes [0xCB, op] := by
  fin_cases op <;> exact fun _ _ => rfl

theorem edSlot_encodes (op : Byte) : (edSlot op).Encodes [0xED, op] := by
  fin_cases op <;> exact fun _ _ => rfl

theorem xySlot_encodes (xy : XY) (op : Byte) : (xySlot xy op).Encodes [xy.byte, op] := by
  cases xy <;> fin_cases op <;> exact fun _ _ => rfl

theorem indexedSlot_encodes (xy : XY) (d op : Byte) : (indexedSlot xy d op).Encodes [xy.byte, 0xCB, d, op] := by
  cases xy <;> fin_cases op <;> exact fun _ _ => rfl

/-- The byte that leads to a slot of the plain region, told from the slot where it continues the walk. -/
def Slot.leadByte (op : Byte) : Slot → Byte
  | .toCb => 0xCB
  | .toEd => 0xED
  | .toXy xy => xy.byte
  | .leaf _ | .imm8 _ | .imm16 _ | .imm8x2 _ | .fallback | .hole => op

theorem leadByte_plainSlot (op : Byte) : (plainSlot op).leadByte op = op := by
  revert op; decide

/-- The instruction read is well formed and the bytes are its encoding and the rest. -/
abbrev ReadFrom (bs : List Byte) (i : Instr) (rest : List Byte) : Prop := i.wf = true ∧ bs = encode i ++ rest

theorem Slot.Encodes.readFrom {slot : Slot} {opcode bs rest : List Byte} {region : TableRegion} {op : Byte} {i : Instr}
    (h : slot.Encodes opcode) (hok : slot.finish region op bs = .ok (i, rest)) : ReadFrom (opcode ++ bs) i rest := by
  obtain ⟨a, b, imms, hat, rfl⟩ := finish_ok hok
  obtain ⟨hwf, hencode⟩ := h.at hat
  exact ⟨hwf, by rw [hencode, List.append_assoc]⟩

theorem readFrom_of_decodeIndexed {xy : XY} {rest : List Byte} {i : Instr} :
    ∀ {bs : List Byte}, decodeIndexed xy bs = .ok (i, rest) → ReadFrom (xy.byte :: 0xCB :: bs) i rest
  | [], hok | [_], hok => nomatch hok
  | d :: op :: _, hok => (indexedSlot_encodes xy d op).readFrom hok

theorem readFrom_of_decodeXy {xy : XY} {rest : List Byte} {i : Instr} :
    ∀ {bs : List Byte}, decodeXy xy bs = .ok (i, rest) → ReadFrom (xy.byte :: bs) i rest
  | [], hok => nomatch hok
  | op :: bs, hok => by
    by_cases hcb : op = 0xCB
    · rw [decodeXy, if_pos hcb] at hok
      exact hcb ▸ readFrom_of_decodeIndexed hok
    · rcases xySlot_cases xy op with hrow | hfall
      · exact (xySlot_encodes xy op).readFrom ((decodeXy_of_isRow bs hcb hrow).symm.trans hok)
      · simp only [decodeXy, if_neg hcb, hfall] at hok
        cases hok
        exact ⟨rfl, rfl⟩

/-- Settles O2: the slot the walk comes to is encoded as the bytes that led there. -/
theorem decodeThenEncode : Obligations.DecodeThenEncode := by
  rintro (_ | ⟨op, bs⟩) rest i hok
  · cases hok
  have hlead := leadByte_plainSlot op
  rcases plainSlot_cases op with hrow | hcb | hed | ⟨xy, hxy⟩
  · exact (plainSlot_encodes op).readFrom ((decode_of_isRow bs hrow).symm.trans hok)
  · simp only [decode, hcb] at hok
    obtain rfl : 0xCB = op := by simpa [hcb, Slot.leadByte] using hlead
    match bs with
    | [] => cases hok
    | op2 :: _ => exact (cbSlot_encodes op2).readFrom hok
  · simp only [decode, hed] at hok
    obtain rfl : 0xED = op := by simpa [hed, Slot.leadByte] using hlead
    match bs with
    | [] => cases hok
    | op2 :: _ => exact (edSlot_encodes op2).readFrom hok
  · simp only [decode, hxy] at hok
    obtain rfl : xy.byte = op := by simpa [hxy, Slot.leadByte] using hlead
    exact readFrom_of_decodeXy hok

/-! ### From the instruction to its bytes and back -/

/-- An immediate word comes back from its two bytes. -/
theorem decode_of_nn {f : Word → Instr} {bs rest : List Byte} {nn : Word}
    (h : decode bs = .ok (f (mkWord (hiByte nn) (loByte nn)), rest)) : decode bs = .ok (f nn, rest) := by
  rwa [mkWord_hiByte_loByte] at h

/-- At each value of the small operands the bytes name one slot, whatever the immediates are. -/
theorem decode_encode (i : Instr) (rest : List Byte) (hwf : i.wf = true) (hleaf : Machine.isXyPrefix i = false) :
    decode (encode i ++ rest) = .ok (i, rest) := by
  cases i with
  | jrCc cc _ => cases cc <;> cases hwf <;> rfl
  | ldRXyd xy r _ | ldXydR xy r _ | ldHlXyd xy r _ | ldXydHl xy r _ => cases xy <;> cases r <;> cases hwf <;> rfl
  | ldXyhR xy h r => cases xy <;> cases h <;> cases r <;> cases hwf <;> rfl
  | nopEd op => fin_cases op <;> cases hwf <;> rfl
  | retn y | im0 y | im1 y | im2 y => fin_cases y <;> cases hwf <;> rfl
  | xyPrefix xy => cases xy <;> cases hleaf
  | addHlSs ss | incSs ss | decSs ss | sbcHlSs ss | adcHlSs ss => cases ss <;> rfl
  | ldMemRrA rr | ldAMemRr rr => cases rr <;> rfl
  | incR r | decR r | ldRN r _ | ldRMemHl r | ldMemHlR r | addAR r | adcAR r | subR r | sbcAR r | andR r | xorR r
  | orR r | cpR r | rlcR r | rrcR r | rlR r | rrR r | slaR r | sraR r | sllR r | srlR r | inRC r | outCR r => cases r <;> rfl
  | retCc cc => cases cc <;> rfl
  | popQq qq | pushQq qq => cases qq <;> rfl
  | rst p => fin_cases p <;> rfl
  | bitBMemHl b | resBMemHl b | setBMemHl b => fin_cases b <;> rfl
  | neg y => fin_cases y <;> rfl
  | incXy xy | decXy xy | incXyd xy _ | decXyd xy _ | ldXydN xy _ _ | ldAXyd xy _ | ldXydA xy _ | addAXyd xy _
  | adcAXyd xy _ | subXyd xy _ | sbcAXyd xy _ | andXyd xy _ | xorXyd xy _ | orXyd xy _ | cpXyd xy _ | popXy xy
  | exSpXy xy | pushXy xy | jpXy xy | ldSpXy xy | rlcXyd xy _ | rrcXyd xy _ | rlXyd xy _ | rrXyd xy _ | slaXyd xy _
  | sraXyd xy _ | sllXyd xy _ | srlXyd xy _ => cases xy <;> rfl
  | ldRR r q => cases r <;> cases q <;> rfl
  | bitBR b r | resBR b r | setBR b r => cases r <;> fin_cases b <;> rfl
  | addXyPp xy pp => cases xy <;> cases pp <;> rfl
  | incXyh xy h | decXyh xy h | ldXyhN xy h _ | ldXyhA xy h | addAXyh xy h | adcAXyh xy h | subXyh xy h | sbcAXyh xy h
  | andXyh xy h | xorXyh xy h | orXyh xy h | cpXyh xy h => cases xy <;> cases h <;> rfl
  | ldRRlcXyd xy _ r | ldRRrcXyd xy _ r | ldRRlXyd xy _ r | ldRRrXyd xy _ r | ldRSlaXyd xy _ r | ldRSraXyd xy _ r
  | ldRSllXyd xy _ r | ldRSrlXyd xy _ r => cases xy <;> cases r <;> rfl
  | resBXyd xy _ b | setBXyd xy _ b => cases xy <;> fin_cases b <;> rfl
  | ldRXyh xy r h => cases xy <;> cases r <;> cases h <;> rfl
  | bitBXyd xy _ b z => cases xy <;> fin_cases b <;> fin_cases z <;> rfl
  | ldRResBXyd xy _ b r | ldRSetBXyd xy _ b r => cases xy <;> cases r <;> fin_cases b <;> rfl
  | ldMemNnHl _ | ldHlMemNn _ | ldMemNnA _ | ldAMemNn _ | jpNn _ | callNn _ => exact decode_of_nn rfl
  | ldDdNn dd _ | ldMemNnDd dd _ | ldDdMemNn dd _ => cases dd <;> exact decode_of_nn rfl
  | jpCcNn cc _ | callCcNn cc _ => cases cc <;> exact decode_of_nn rfl
  | ldXyNn xy _ | ldMemNnXy xy _ | ldXyMemNn xy _ => cases xy <;> exact decode_of_nn rfl
  | _ => rfl

/-! ### The bytes that fall back -/

/-- The map of R98, and the byte that leads on to the indexed-CB region. -/
theorem mem_xyHandlers (xy : XY) (op : Byte) : op.toNat ∈ Machine.xyHandlers ↔ op = 0xCB ∨ (xySlot xy op).isRow = true := by
  revert op; cases xy <;> decide

theorem finish_length_le {slot : Slot} {bs rest : List Byte} {region : TableRegion} {op : Byte} {i : Instr}
    (hok : slot.finish region op bs = .ok (i, rest)) : rest.length ≤ bs.length := by
  obtain ⟨a, b, imms, -, rfl⟩ := finish_ok hok
  simp

/-- The walk leaves the bytes after DD or FD unread only at a byte without a handler. -/
theorem decodeXy_length_le {xy : XY} {op : Byte} {bs rest : List Byte} {i : Instr} (hhandler : op.toNat ∈ Machine.xyHandlers)
    (hok : decodeXy xy (op :: bs) = .ok (i, rest)) : rest.length ≤ bs.length := by
  by_cases hcb : op = 0xCB
  · rw [decodeXy, if_pos hcb] at hok
    match bs with
    | [] | [_] => cases hok
    | _ :: _ :: bs => exact (finish_length_le hok).trans (Nat.le_add_right _ 2)
  · have hrow := ((mem_xyHandlers xy op).mp hhandler).resolve_left hcb
    exact finish_length_le ((decodeXy_of_isRow bs hcb hrow).symm.trans hok)

theorem decode_xyByte (xy : XY) (bs : List Byte) : decode (encode (.xyPrefix xy) ++ bs) = decodeXy xy bs := by
  cases xy <;> rfl

/-- Settles O1: the row of a well-formed instruction is the slot its bytes lead to; the bytes after DD or FD stay unread only where
none of them has a handler. -/
theorem encodeThenDecode : Obligations.EncodeThenDecode := by
  refine ⟨decode_encode, fun xy op rest => ?_⟩
  rw [decode_xyByte]
  constructor
  · intro hok hhandler
    exact absurd (decodeXy_length_le hhandler hok) (Nat.not_succ_le_self _)
  · intro hnone
    obtain ⟨hcb, hrow⟩ := not_or.mp (mt (mem_xyHandlers xy op).mpr hnone)
    simp only [decodeXy, if_neg hcb, (xySlot_cases xy op).resolve_left hrow]

/-- Settles O4: each word has its one slot. -/
theorem wordsOfTheMaps : Obligations.WordsOfTheMaps := by
  unfold Obligations.WordsOfTheMaps
  and_intros <;> rfl

end Sys2Proof
end

section
/-! T, PC and R of an instruction and of a step: T never falls and every step adds at least four (R318, R322), PC is left after the
last byte by every instruction that is no transfer (R71, R93), R moves by the fetches (R91). -/

namespace Sys2Proof.Machine

/-! ### T never falls -/

section
variable (s : State) (a : Word)

theorem le_tick_t (k : BusKind) (n : Nat) : s.t ≤ (s.tick k a n).t := (Nat.le_add_right _ n).trans (tick_le s k a n)

theorem le_ticks_t (k : BusKind) (n : Nat) : s.t ≤ (s.ticks k a n).t := (Nat.le_add_right _ n).trans (ticks_le s k a n)

theorem le_noMreq_t (n : Nat) : s.t ≤ (s.noMreq a n).t := le_ticks_t s a _ n

theorem le_noMreqWrite_t (n : Nat) : s.t ≤ (s.noMreqWrite a n).t := le_ticks_t s a _ n

theorem le_afterRead_t : s.t ≤ (s.afterRead a).t := (le_tick_t s a _ _).trans_eq (afterRead_t s a).symm

theorem le_memWrite_t (v : Byte) : s.t ≤ (s.memWrite a v).t := (le_tick_t s a _ _).trans_eq (memWrite_t s a v).symm

theorem le_fetchImm_t : s.t ≤ s.fetchImm.t := (le_tick_t s s.pc _ _).trans_eq (fetchImm_t s).symm

theorem le_afterReadWord_t : s.t ≤ (s.afterReadWord a).t := (le_afterRead_t s a).trans (le_afterRead_t _ _)

theorem le_writeWord_t (v : Word) : s.t ≤ (s.writeWord a v).t := (le_memWrite_t s a _).trans (le_memWrite_t _ _ _)

theorem le_push_t (v : Word) : s.t ≤ (s.push v).t := by
  grind [State.push, setSp_t, le_memWrite_t]

theorem le_afterPortRead_t : s.t ≤ (s.afterPortRead a).t := le_tick_t s a .portRead 4

theorem le_portWrite_t (v : Byte) : s.t ≤ (s.portWrite a v).t := le_tick_t s a .portWrite 4

theorem le_fetchDisp_t : s.t ≤ s.fetchDisp.t := (le_fetchImm_t s).trans (le_noMreq_t _ _ _)

theorem le_modifyByte_t (v : Byte) : s.t ≤ (s.modifyByte a v).t :=
  ((le_afterRead_t s a).trans (le_noMreq_t _ _ _)).trans (le_memWrite_t _ _ _)

theorem le_enterIndexedCb_t (xy : XY) (d : Byte) : s.t ≤ (s.enterIndexedCb xy d).t := by
  grind [State.enterIndexedCb, State.fetchSubOp, setPc_t, setScr_t, drawAt_t, le_noMreq_t, le_tick_t, le_fetchImm_t]

theorem le_afterSource_t (src : Source) : s.t ≤ (s.afterSource src).t := by
  cases src with
  | reg r | half xy h => exact Nat.le_refl _
  | imm n => exact le_fetchImm_t s
  | memHl => exact le_afterRead_t s _
  | memXyd xy d => exact (le_fetchDisp_t s).trans (le_afterRead_t _ _)

theorem le_repeatIf_t (again : Bool) (k : BusKind) : s.t ≤ (s.repeatIf again k a).t := by
  cases again
  · exact Nat.le_refl _
  · exact le_ticks_t s a k 5

end

/-! ### T of the shared rules -/

section
variable (s : State)

theorem le_aluWrite_t (src : Source) (res flags : Byte → Byte) : s.t ≤ (s.aluWrite src res flags).t := le_afterSource_t s src

theorem le_cpA_t (src : Source) : s.t ≤ (s.cpA src).t := le_afterSource_t s src

theorem le_incMem_t (a : Word) : s.t ≤ (s.incMem a).t := le_modifyByte_t s a _

theorem le_decMem_t (a : Word) : s.t ≤ (s.decMem a).t := le_modifyByte_t s a _

theorem le_shiftMem_t (op : Shift) (a : Word) : s.t ≤ (s.shiftMem op a).t := le_modifyByte_t s a _

theorem le_shiftIndexed_t (op : Shift) (xy : XY) (d : Byte) : s.t ≤ (s.shiftIndexed op xy d).t :=
  (le_enterIndexedCb_t s xy d).trans (le_shiftMem_t _ op _)

theorem le_shiftIndexedCopy_t (op : Shift) (xy : XY) (d : Byte) (r : R8) : s.t ≤ (s.shiftIndexedCopy op xy d r).t :=
  le_shiftIndexed_t s op xy d

theorem le_changeIndexed_t (g : Byte → Byte) (xy : XY) (d : Byte) : s.t ≤ (s.changeIndexed g xy d).t :=
  (le_enterIndexedCb_t s xy d).trans (le_modifyByte_t _ _ _)

theorem le_changeIndexedCopy_t (g : Byte → Byte) (xy : XY) (d : Byte) (r : R8) : s.t ≤ (s.changeIndexedCopy g xy d r).t :=
  le_changeIndexed_t s g xy d

theorem le_bitMem_t (b : BitVec 3) (a : Word) (x : Byte) : s.t ≤ (s.bitMem b a x).t :=
  (le_afterRead_t s a).trans (le_noMreq_t _ a 1)

theorem le_nibbleRotate_t (mem acc : Byte) : s.t ≤ (s.nibbleRotate mem acc).t :=
  ((le_afterRead_t s s.hl).trans (le_noMreq_t _ s.hl 4)).trans (le_memWrite_t _ s.hl mem)

theorem le_afterPop_t : s.t ≤ s.afterPop.t := le_afterReadWord_t s s.sp

theorem le_jumpRel_t (e : Byte) : s.t ≤ (s.jumpRel e).t := le_noMreq_t s _ 5

theorem le_call_t (nn : Word) : s.t ≤ (s.call nn).t := (le_noMreq_t s _ 1).trans (le_push_t _ s.pc)

theorem le_fetchImm2_t : s.t ≤ s.fetchImm2.t := (le_fetchImm_t s).trans (le_fetchImm_t _)

theorem le_pushPair_t (v : Word) : s.t ≤ (s.pushPair v).t := (le_noMreq_t s s.ir 1).trans (le_push_t _ v)

theorem le_swapTop_t (p : Word) : s.t ≤ (s.swapTop p).t := by
  calc s.t ≤ ((s.afterReadWord s.sp).noMreq (s.sp + 1) 1).t := (le_afterReadWord_t s _).trans (le_noMreq_t _ _ _)
    _ ≤ ((((s.afterReadWord s.sp).noMreq (s.sp + 1) 1).memWrite (s.sp + 1) (hiByte p)).memWrite s.sp (loByte p)).t :=
      (le_memWrite_t _ _ _).trans (le_memWrite_t _ _ _)
    _ ≤ (s.swapTop p).t := le_noMreqWrite_t _ _ _

theorem le_ldUnit_t : s.t ≤ s.ldUnit.t :=
  ((le_afterRead_t s s.hl).trans (le_memWrite_t _ s.de _)).trans (le_noMreqWrite_t _ s.de 2)

theorem le_cpUnit_t : s.t ≤ s.cpUnit.t := (le_afterRead_t s s.hl).trans (le_noMreq_t _ s.hl 5)

theorem le_inUnit_t (dir : Dir) : s.t ≤ (s.inUnit dir).t := by
  grind [State.inUnit, setF_t, setR8_t, le_noMreq_t, le_afterPortRead_t, le_memWrite_t]

theorem le_ldStep_t (dir : Dir) : s.t ≤ (s.ldStep dir).t := by
  simpa only [State.ldStep, State.stepDe, State.stepHl, setDe_t, setHl_t] using le_ldUnit_t s

theorem le_ldRepeat_t (dir : Dir) : s.t ≤ (s.ldRepeat dir).t := by
  simpa only [State.ldRepeat, State.stepDe, State.stepHl, setDe_t, setHl_t]
    using (le_ldUnit_t s).trans (le_repeatIf_t _ _ _ _)

theorem le_cpStep_t (dir : Dir) : s.t ≤ (s.cpStep dir).t := le_cpUnit_t s

theorem le_cpRepeat_t (dir : Dir) : s.t ≤ (s.cpRepeat dir).t := by
  simpa only [State.cpRepeat, State.stepHl, setHl_t] using (le_cpUnit_t s).trans (le_repeatIf_t _ _ _ _)

theorem le_inStep_t (dir : Dir) : s.t ≤ (s.inStep dir).t := by
  simpa only [State.inStep, State.stepHl, setHl_t] using le_inUnit_t s dir

theorem le_inRepeat_t (dir : Dir) : s.t ≤ (s.inRepeat dir).t := by
  simpa only [State.inRepeat, State.stepHl, setHl_t] using (le_inUnit_t s dir).trans (le_repeatIf_t _ _ _ _)

theorem le_outStep_t (dir : Dir) : s.t ≤ (s.outStep dir).t := by
  grind [State.outStep, State.stepHl, setF_t, setHl_t, setR8_t, le_noMreq_t, le_afterRead_t, le_portWrite_t]

theorem le_outRepeat_t (dir : Dir) : s.t ≤ (s.outRepeat dir).t := (le_outStep_t s dir).trans (le_repeatIf_t _ _ _ _)

end

theorem t_le_of_next {n : Nat} {t u : State} (h : (.next u : Result) = .next t) (hle : n ≤ u.t) : n ≤ t.t := by
  cases h; exact hle

theorem exec_t_le (i : Instr) {s t : State} (h : exec i s = .next t) : s.t ≤ t.t := by
  cases i with
  | addAR _ | addAMemHl | addAN _ | addAXyh _ _ | addAXyd _ _ | adcAR _ | adcAMemHl | adcAN _ | adcAXyh _ _
  | adcAXyd _ _ | subR _ | subMemHl | subN _ | subXyh _ _ | subXyd _ _ | sbcAR _ | sbcAMemHl | sbcAN _
  | sbcAXyh _ _ | sbcAXyd _ _ | andR _ | andMemHl | andN _ | andXyh _ _ | andXyd _ _ | xorR _ | xorMemHl
  | xorN _ | xorXyh _ _ | xorXyd _ _ | orR _ | orMemHl | orN _ | orXyh _ _ | orXyd _ _ => exact t_le_of_next h (le_aluWrite_t _ _ _ _)
  | cpR _ | cpMemHl | cpN _ | cpXyh _ _ | cpXyd _ _ => exact t_le_of_next h (le_cpA_t _ _)
  | incMemHl => exact t_le_of_next h (le_incMem_t _ _)
  | decMemHl => exact t_le_of_next h (le_decMem_t _ _)
  | incXyd xy d => exact t_le_of_next h ((le_fetchDisp_t s).trans (le_incMem_t _ _))
  | decXyd xy d => exact t_le_of_next h ((le_fetchDisp_t s).trans (le_decMem_t _ _))
  | rlcMemHl | rrcMemHl | rlMemHl | rrMemHl | slaMemHl | sraMemHl | sllMemHl | srlMemHl => exact t_le_of_next h (le_shiftMem_t _ _ _)
  | resBMemHl b | setBMemHl b => exact t_le_of_next h (le_modifyByte_t _ _ _)
  | rlcXyd xy d | rrcXyd xy d | rlXyd xy d | rrXyd xy d | slaXyd xy d | sraXyd xy d | sllXyd xy d | srlXyd xy d =>
    exact t_le_of_next h (le_shiftIndexed_t _ _ _ _)
  | ldRRlcXyd xy d r | ldRRrcXyd xy d r | ldRRlXyd xy d r | ldRRrXyd xy d r | ldRSlaXyd xy d r | ldRSraXyd xy d r
  | ldRSllXyd xy d r | ldRSrlXyd xy d r => exact t_le_of_next h (le_shiftIndexedCopy_t _ _ _ _ _)
  | resBXyd xy d b | setBXyd xy d b => exact t_le_of_next h (le_changeIndexed_t _ _ _ _)
  | ldRResBXyd xy d b r | ldRSetBXyd xy d b r => exact t_le_of_next h (le_changeIndexedCopy_t _ _ _ _ _)
  | bitBMemHl b => exact t_le_of_next h (le_bitMem_t _ _ _ _)
  | bitBXyd xy d b _ => exact t_le_of_next h ((le_enterIndexedCb_t s xy d).trans (le_bitMem_t _ _ _ _))
  | rld | rrd => exact t_le_of_next h (le_nibbleRotate_t _ _ _)
  | addHlSs ss | adcHlSs ss | sbcHlSs ss => exact t_le_of_next h (le_noMreq_t s s.ir 7)
  | addXyPp xy pp => exact t_le_of_next h ((le_noMreq_t s s.ir 7).trans_eq (setXy_t _ xy _).symm)
  | incSs ss | decSs ss => exact t_le_of_next h ((le_noMreq_t s s.ir 2).trans_eq (setRp_t _ ss _).symm)
  | incXy xy | decXy xy => exact t_le_of_next h ((le_noMreq_t s s.ir 2).trans_eq (setXy_t _ xy _).symm)
  | ldSpHl | ldSpXy xy => exact t_le_of_next h (le_noMreq_t s s.ir 2)
  | ldIA | ldRA | ldAI | ldAR => exact t_le_of_next h (le_noMreq_t s s.ir 1)
  | ldMemRrA rr | ldMemHlR r => exact t_le_of_next h (le_memWrite_t _ _ _)
  | ldAMemRr rr | ldRMemHl r => exact t_le_of_next h (le_afterRead_t _ _)
  | ldRN r n => exact t_le_of_next h (le_fetchImm_t s)
  | ldMemHlN n => exact t_le_of_next h ((le_fetchImm_t s).trans (le_memWrite_t _ _ _))
  | ldXyhN xy half n => exact t_le_of_next h ((le_fetchImm_t s).trans_eq (setHalf_t _ xy half n).symm)
  | inAN n => exact t_le_of_next h ((le_fetchImm_t s).trans (le_afterPortRead_t _ _))
  | outNA n => exact t_le_of_next h ((le_fetchImm_t s).trans (le_portWrite_t _ _ _))
  | inRC r | inFC => exact t_le_of_next h (le_afterPortRead_t _ _)
  | outCR r | outC0 => exact t_le_of_next h (le_portWrite_t _ _ _)
  | ldRXyd xy r d | ldHlXyd xy r d | ldAXyd xy d => exact t_le_of_next h ((le_fetchDisp_t s).trans (le_afterRead_t _ _))
  | ldXydR xy r d | ldXydHl xy r d | ldXydA xy d => exact t_le_of_next h ((le_fetchDisp_t s).trans (le_memWrite_t _ _ _))
  | ldXydN xy d n => exact t_le_of_next h (((le_fetchImm2_t s).trans (le_noMreq_t _ _ _)).trans (le_memWrite_t _ _ _))
  | ldDdNn dd nn => exact t_le_of_next h ((le_fetchImm2_t s).trans_eq (setRp_t _ dd nn).symm)
  | ldXyNn xy nn => exact t_le_of_next h ((le_fetchImm2_t s).trans_eq (setXy_t _ xy nn).symm)
  | ldMemNnA nn => exact t_le_of_next h ((le_fetchImm2_t s).trans (le_memWrite_t _ _ _))
  | ldAMemNn nn => exact t_le_of_next h ((le_fetchImm2_t s).trans (le_afterRead_t _ _))
  | ldMemNnHl nn | ldMemNnXy xy nn | ldMemNnDd dd nn => exact t_le_of_next h ((le_fetchImm2_t s).trans (le_writeWord_t _ _ _))
  | ldHlMemNn nn =>
    exact t_le_of_next h (((le_fetchImm2_t s).trans (le_afterReadWord_t _ _)).trans_eq (setHl_t _ _).symm)
  | ldXyMemNn xy nn =>
    exact t_le_of_next h (((le_fetchImm2_t s).trans (le_afterReadWord_t _ _)).trans_eq (setXy_t _ xy _).symm)
  | ldDdMemNn dd nn =>
    exact t_le_of_next h (((le_fetchImm2_t s).trans (le_afterReadWord_t _ _)).trans_eq (setRp_t _ dd _).symm)
  | pushQq qq | pushXy xy => exact t_le_of_next h (le_pushPair_t _ _)
  | rst p => exact t_le_of_next h ((le_noMreq_t s s.ir 1).trans (le_push_t _ s.pc))
  | popQq qq => exact t_le_of_next h ((le_afterPop_t s).trans_eq (setRp2_t _ qq _).symm)
  | popXy xy => exact t_le_of_next h ((le_afterPop_t s).trans_eq (setXy_t _ xy _).symm)
  | exSpHl => exact t_le_of_next h ((le_swapTop_t s _).trans_eq (setHl_t _ _).symm)
  | exSpXy xy => exact t_le_of_next h ((le_swapTop_t s _).trans_eq (setXy_t _ xy _).symm)
  | ret => exact t_le_of_next h (le_afterPop_t s)
  | retn y | reti => exact t_le_of_next h (le_afterPop_t (s.setIffs s.iff2 s.iff2))
  | retCc cc => refine t_le_of_next h ?_; split; exacts [(le_noMreq_t s _ 1).trans (le_afterPop_t _), le_noMreq_t s _ 1]
  | jpNn nn => exact t_le_of_next h (le_fetchImm2_t s)
  | jpCcNn cc nn => refine t_le_of_next h ?_; split <;> exact le_fetchImm2_t s
  | callNn nn => exact t_le_of_next h ((le_fetchImm2_t s).trans (le_call_t _ nn))
  | callCcNn cc nn => refine t_le_of_next h ?_; split; exacts [(le_fetchImm2_t s).trans (le_call_t _ nn), le_fetchImm2_t s]
  | jr e => exact t_le_of_next h ((le_fetchImm_t s).trans (le_jumpRel_t _ e))
  | jrCc cc e => refine t_le_of_next h ?_; split; exacts [(le_fetchImm_t s).trans (le_jumpRel_t _ e), le_fetchImm_t s]
  | djnz e =>
    refine t_le_of_next h ?_
    have hfetched : s.t ≤ ((s.noMreq s.ir 1).setR8 .b (s.main.b - 1)).fetchImm.t :=
      (le_noMreq_t s s.ir 1).trans (le_fetchImm_t ((s.noMreq s.ir 1).setR8 .b (s.main.b - 1)))
    split
    exacts [hfetched, hfetched.trans (le_jumpRel_t _ e)]
  | ldi | ldd => exact t_le_of_next h (le_ldStep_t _ _)
  | cpi | cpd => exact t_le_of_next h (le_cpStep_t _ _)
  | ini | ind => exact t_le_of_next h (le_inStep_t _ _)
  | outi | outd => exact t_le_of_next h (le_outStep_t _ _)
  | ldir | lddr => exact t_le_of_next h (le_ldRepeat_t _ _)
  | cpir | cpdr => exact t_le_of_next h (le_cpRepeat_t _ _)
  | inir | indr => exact t_le_of_next h (le_inRepeat_t _ _)
  | otir | otdr => exact t_le_of_next h (le_outRepeat_t _ _)
  | incXyh xy half | decXyh xy half | ldXyhR xy half r | ldXyhA xy half => exact t_le_of_next h ((setHalf_t s xy half _).ge)
  | ldRXyh xy r half => exact t_le_of_next h ((setXReg_t s xy r _).ge)
  | _ => exact t_le_of_next h (Nat.le_refl _)

/-- A leaf has an opcode byte of its own, so the fetches alone take four T-states. -/
theorem one_le_opcodeFetches (i : Instr) : 1 ≤ opcodeFetches i := by
  cases i <;> exact Nat.le_of_ble_eq_true rfl

/-- Settles O11: a halted step is one contended fetch; any other fetches at least one opcode byte, and no rule takes T back. With no
contention the rule costs what R320 says of it. -/
theorem stepTiming : Obligations.StepTiming := by
  constructor
  · intro s t hstep
    obtain ⟨-, -, ⟨-, rfl⟩ | ⟨-, m, i, u, -, -, hexec, rfl⟩⟩ := step_cases hstep
    · exact tick_le s _ _ 4
    · have hchain := fetchOps_t_le s m
      have hopcode := fetchOps_t_le (s.fetchOps m) (opcodeFetches i)
      have hone := one_le_opcodeFetches i
      have hrule := exec_t_le i hexec
      rw [setEiDelay_t]
      omega
  · intro s t n i hrun hc hchain hleaf hstep
    obtain ⟨u, hexec, hu⟩ := step_chain hrun hchain hleaf
    obtain rfl : u.setEiDelay (i == .ei) = t := by simpa [hu] using hstep
    have hcost := exec_cost _ _ _ hexec (by simpa using hc)
    rw [fetchOps_t _ _ (by simpa using hc), fetchOps_t _ _ hc] at hcost
    rw [setEiDelay_t]
    omega

/-! ### PC -/

theorem pc_of_next {v : Word} {t u : State} (h : (.next u : Result) = .next t) (hpc : u.pc = v) : t.pc = v := by
  cases h; exact hpc

/-- The rule of an instruction that is no transfer fetches what its opcode fetches left of its bytes. -/
theorem exec_pc {i : Instr} {s t : State} (h : exec i s = .next t) (hstays : movesPc i = false) :
    t.pc = s.pc + BitVec.ofNat 16 ((encode i).length - opcodeFetches i) := by
  cases i with
  | djnz e | jr e | jrCc cc e | jpHl | jpXy xy | jpNn nn | jpCcNn cc nn | callNn nn | callCcNn cc nn | ret
  | retCc cc | retn y | reti | rst p | ldir | lddr | cpir | cpdr | inir | indr | otir | otdr | halt => cases hstays
  | _ =>
    refine pc_of_next h ?_
    simp [encode, nnBytes, opcodeFetches, State.aluWrite, State.addA, State.adcA, State.subA, State.sbcA, State.andA,
      State.xorA, State.orA, State.cpA, State.incMem, State.decMem, State.shiftReg, State.shiftMem, State.changeMem,
      State.shiftIndexed, State.shiftIndexedCopy, State.changeIndexed, State.changeIndexedCopy, State.bitMem,
      State.bitIndexed, State.nibbleRotate, State.rotateA, State.loadXyd, State.storeXyd, State.swapTop, State.pushPair,
      State.loadSp, State.loadAFromIr, State.afterSource]

theorem opcodeFetches_le_length (i : Instr) : opcodeFetches i ≤ (encode i).length := by
  cases i <;> exact Nat.le_of_ble_eq_true rfl

/-- Settles O12: the opcode fetches and the fetches of the rule together are the instruction's bytes. -/
theorem pcAdvancesByTheLength : Obligations.PcAdvancesByTheLength := by
  intro s i hrun hleaf hstays
  obtain ⟨t, hexec, hstep⟩ := step_leaf hrun hleaf
  refine ⟨_, hstep, ?_⟩
  rw [setEiDelay_pc, exec_pc hexec hstays, fetchOps_pc, BitVec.add_assoc, ← BitVec.ofNat_add,
    Nat.add_sub_cancel' (opcodeFetches_le_length i)]

/-! ### R -/

theorem toNat_rByte (s : State) : s.rByte.toNat = s.rB7.toNat * 128 + s.rLow.toNat := by
  rw [State.rByte, BitVec.toNat_append, ← Nat.shiftLeft_add_eq_or_of_lt s.rLow.isLt, Nat.shiftLeft_eq, BitVec.toNat_ofBool]

/-- Both parts of R are in the byte it reads as (R32). -/
theorem rByte_injective {s t : State} (h : t.rByte = s.rByte) : t.rLow = s.rLow ∧ t.rB7 = s.rB7 := by
  have hbyte : t.rB7.toNat * 128 + t.rLow.toNat = s.rB7.toNat * 128 + s.rLow.toNat := by rw [← toNat_rByte, h, toNat_rByte]
  have ht := t.rLow.isLt
  have hs := s.rLow.isLt
  exact ⟨BitVec.eq_of_toNat_eq (by omega), Function.LeftInverse.injective Bool.ofNat_toNat (by omega)⟩

theorem exec_r {i : Instr} {s t : State} (hi : i ≠ .ldRA) (h : exec i s = .next t) : t.rLow = s.rLow ∧ t.rB7 = s.rB7 := by
  refine rByte_injective (BitVec.eq_of_toNat_eq (exec_cells _ _ _ h .r ?_ (by simp) (by simp)))
  cases i with
  | ldRA => exact absurd rfl hi
  | _ => simp [cellsWritten]

end Sys2Proof.Machine
end

section
/-! Memory and the stack (R51 to R60): what each access gives and leaves, EX (SP), and what a pop reads back of a push. -/

namespace Sys2Proof.Machine

/-! ### Reads and writes of memory -/

theorem loByte_eq_ofNat (v : Word) : loByte v = BitVec.ofNat 8 v.toNat :=
  BitVec.eq_of_toNat_eq (by rw [toNat_loByte, BitVec.toNat_ofNat])

theorem hiByte_eq_ofNat (v : Word) : hiByte v = BitVec.ofNat 8 (v.toNat / 256) :=
  BitVec.eq_of_toNat_eq (by rw [toNat_hiByte, BitVec.toNat_ofNat]; omega)

/-- A byte of RAM that a store has reached is read back. -/
theorem Stored.byteAt {s u : State} {a : Word} {v : Byte} (h : Stored s u a v) (hplatform : u.platform = s.platform)
    (ha : s.kindAt a = .ram) : u.byteAt a = v := by
  rw [byteAt_plain u (by rw [kindAt_congr hplatform, ha]; decide), h, if_pos ha]

/-- A word read from no device is the contents of memory, high byte at the second address (R53). -/
theorem toNat_readWord_plain {s : State} {a : Word} (ha : s.kindAt a ≠ .device) (ha1 : s.kindAt (a + 1) ≠ .device) :
    (s.readWord a).toNat = (s.peek (a + 1)).toNat * 256 + (s.peek a).toNat := by
  rw [toNat_readWord, byteAt_plain s ha, byteAt_plain _ (by simpa using ha1), peek_congr (afterRead_mem s a)]

/-- A word of RAM that a store has reached is read back (R53). -/
theorem readWord_of_storedWord {s u : State} {a v : Word} (h : StoredWord s u a v) (hplatform : u.platform = s.platform)
    (ha : s.kindAt a = .ram) (ha1 : s.kindAt (a + 1) = .ram) : u.readWord a = v := by
  obtain ⟨hlo, hhi⟩ := h
  rw [Stored, if_pos ha] at hlo
  rw [Stored, if_pos ha1] at hhi
  have hkind (b : Word) : u.kindAt b = s.kindAt b := kindAt_congr hplatform b
  apply BitVec.eq_of_toNat_eq
  rw [toNat_readWord_plain (by rw [hkind, ha]; decide) (by rw [hkind, ha1]; decide), hlo, hhi, ← toNat_mkWord, mkWord_hiByte_loByte]

section
variable (s : State) {a : Word}

theorem afterRead_plain (ha : s.kindAt a ≠ .device) : (s.afterRead a).draws = s.draws ∧ (s.afterRead a).answers = s.answers := by
  rw [State.afterRead, drawAt_plain _ (by simpa using ha)]
  simp

theorem afterRead_device (ha : s.kindAt a = .device) :
    (s.afterRead a).draws = s.draws + 1 ∧ (s.afterRead a).answers = s.answers.tail := by
  simp [State.afterRead, drawAt_draws, drawAt_answers, ha]

theorem byteAt_device (ha : s.kindAt a = .device) : s.byteAt a = s.answers.headD (Config.deviceByte s.draws a) := by
  simp only [State.byteAt, ha, State.nextAnswer]

theorem peek_debugWrite (a b : Word) (v : Byte) (hwf : s.mem.wf = true) :
    (s.debugWrite a v).peek b = if b = a then v else s.peek b := by
  split
  case isTrue h => exact h ▸ Memory.read_write_self v hwf
  case isFalse h => exact Memory.read_write_ne v (fun e => h (BitVec.eq_of_toNat_eq e)) _

end

/-- Settles O21: the contents follow the write policy, and a draw is made at a device address alone. -/
theorem memoryAccesses : Obligations.MemoryAccesses := by
  refine ⟨fun s a b v hwf => ⟨stored_memWrite rfl rfl hwf v, peek_memWrite_ne s v⟩, fun s a v hwf ha ha1 => ?_,
    fun s a ha => ⟨byteAt_plain s ha, afterRead_plain s ha⟩,
    fun s a b v hwf => ⟨peek_debugWrite s a b v hwf, Memory.wf_write a v hwf, rfl⟩,
    fun s a ha => ⟨byteAt_device s ha, (afterRead_device s ha).1, (afterRead_device s ha).2, afterRead_mem s a⟩⟩
  have hword : StoredWord s (s.writeWord a v) a v := storedWord_writeWord rfl rfl hwf a v
  have hplatform : (s.writeWord a v).platform = s.platform := by simp
  exact ⟨readWord_of_storedWord hword hplatform ha ha1, (hword.1.byteAt hplatform ha).trans (loByte_eq_ofNat v),
    (hword.2.byteAt hplatform ha1).trans (hiByte_eq_ofNat v)⟩

/-- Settles O34: where the address is not a device, neither the displacement's fetch nor the read changes what is there. -/
theorem sourceOperands : Obligations.SourceOperands := fun s =>
  ⟨fun _ => rfl, fun _ _ => rfl, fun _ => rfl, rfl, byteAt_plain s, fun xy d ha =>
    (byteAt_plain _ (by rwa [kindAt_fetchDisp])).trans (peek_congr (fetchDisp_mem s) _)⟩

/-- The contents alone count. -/
theorem StoredWord.congr {s t u : State} {a v : Word} (h : StoredWord s u a v) (hmem : t.mem = u.mem) : StoredWord s t a v :=
  ⟨(peek_congr hmem _).trans h.1, (peek_congr hmem _).trans h.2⟩

/-! ### EX (SP) (R121) -/

section
variable (s : State) (p : Word)

@[simp] theorem swapTop_sp : (s.swapTop p).sp = s.sp := by simp [State.swapTop]

/-- The pair goes to the stack high byte first, both bytes at the addresses read before. -/
theorem storedWord_swapTop (hwf : s.mem.wf = true) : StoredWord s (s.swapTop p) s.sp p := by
  let u := (s.afterReadWord s.sp).noMreq (s.sp + 1) 1
  have hplatform : u.platform = s.platform := by simp [u]
  have hmem : u.mem = s.mem := by simp [u]
  have hhi : Stored s (u.memWrite (s.sp + 1) (hiByte p)) (s.sp + 1) (hiByte p) := stored_memWrite_of_mem hplatform hmem hwf _ _
  have hlow : (u.memWrite (s.sp + 1) (hiByte p)).peek s.sp = s.peek s.sp :=
    (peek_memWrite_ne u _ (ne_add_one s.sp)).trans (peek_congr hmem _)
  have hlo : Stored s ((u.memWrite (s.sp + 1) (hiByte p)).memWrite s.sp (loByte p)) s.sp (loByte p) :=
    stored_memWrite (by simpa using hplatform) hlow (wf_memWrite _ _ _ (hmem ▸ hwf)) _
  have hdelay (a : Word) : (s.swapTop p).peek a = ((u.memWrite (s.sp + 1) (hiByte p)).memWrite s.sp (loByte p)).peek a :=
    peek_congr (noMreqWrite_mem _ s.sp 2) a
  exact ⟨(hdelay _).trans hlo, (hdelay _).trans (hhi.memWrite_ne (ne_add_one s.sp).symm _)⟩

end

/-- What a pop reads back of a push onto RAM (R58, R59). -/
theorem readWord_of_push {s u : State} {v : Word} (hpushed : StoredWord s u (s.sp - 2) v) (hplatform : u.platform = s.platform)
    (h1 : s.kindAt (s.sp - 1) = .ram) (h2 : s.kindAt (s.sp - 2) = .ram) (hsp : u.sp = s.sp - 2) : u.readWord u.sp = v := by
  rw [hsp]
  refine readWord_of_storedWord hpushed hplatform h2 ?_
  rw [show s.sp - 2 + 1 = s.sp - 1 by bv_omega, h1]

/-- Settles O32: EX (SP) by its two reads and two writes; the round trips by what a pop reads back of a push. -/
theorem stackExchangeAndRoundTrips : Obligations.StackExchangeAndRoundTrips := by
  refine ⟨fun s hwf => ⟨exec_next_and rfl ⟨(storedWord_swapTop s s.hl hwf).congr (setHl_mem _ _),
      hiByte_readWord s s.sp, loByte_readWord s s.sp, by simp⟩,
    fun xy => exec_next_and rfl ⟨(storedWord_swapTop s (s.xy xy) hwf).congr (setXy_mem _ xy _),
      (setXy_half_hi _ xy _).trans (hiByte_readWord s s.sp),
      (setXy_half_lo _ xy _).trans (loByte_readWord s s.sp), by simp⟩⟩,
    fun s hwf h1 h2 => ⟨fun qq qq' => ⟨_, _, rfl, rfl, ?_, ?_⟩, fun nn => ⟨_, _, rfl, rfl, rfl, ?_, ?_⟩⟩⟩
  · have hpushed : StoredWord s (s.pushPair (s.rp2 qq)) (s.sp - 2) (s.rp2 qq) :=
      storedWord_push (by simp) (by simp) hwf (by simp) _
    exact (setRp2_rp2 _ _ qq').trans (readWord_of_push hpushed (by simp [State.pushPair]) h1 h2 (by simp [State.pushPair]))
  · simp [State.pushPair]
  · have hpushed : StoredWord s (s.fetchImm2.call nn) (s.sp - 2) s.fetchImm2.pc :=
      storedWord_push (by simp) (by simp) hwf (by simp) _
    exact (readWord_of_push hpushed (by simp [State.call]) h1 h2 (by simp [State.call])).trans (fetchImm2_pc s)
  · simp [State.call]

end Sys2Proof.Machine
end

section
/-! The interrupt: what its acceptance leaves (R281 to R287), HALT and the return from the handler (R222, R260, R288), and the run to
a budget (R295). -/

namespace Sys2Proof.Machine

/-! ### The common part of an acceptance (R287) -/

/-- The address an acceptance pushes: past the HALT opcode if the core was halted (R289). -/
def State.returnAddress (s : State) : Word := if s.halted then s.pc + 1 else s.pc

/-- An acceptance that is about to push PC. -/
def State.beforeEntryPush (s : State) : State :=
  (((if s.halted then (s.setHalted false).setPc (s.pc + 1) else s).addT Config.acceptTicks).bumpR).setIffs false false

section
variable (s : State)

theorem interruptEntry_eq : s.interruptEntry = s.beforeEntryPush.push s.beforeEntryPush.pc := rfl

@[simp] theorem beforeEntryPush_pc : s.beforeEntryPush.pc = s.returnAddress := by
  unfold State.beforeEntryPush State.returnAddress; split <;> rfl

@[simp] theorem beforeEntryPush_sp : s.beforeEntryPush.sp = s.sp := by unfold State.beforeEntryPush; split <;> rfl
@[simp] theorem beforeEntryPush_mem : s.beforeEntryPush.mem = s.mem := by unfold State.beforeEntryPush; split <;> rfl
@[simp] theorem beforeEntryPush_platform : s.beforeEntryPush.platform = s.platform := by
  unfold State.beforeEntryPush; split <;> rfl
@[simp] theorem beforeEntryPush_t : s.beforeEntryPush.t = s.t + 7 := by unfold State.beforeEntryPush; split <;> rfl

@[simp] theorem beforeEntryPush_halted : s.beforeEntryPush.halted = false := by
  unfold State.beforeEntryPush
  split
  · rfl
  · next h => exact Bool.eq_false_iff.mpr h

theorem rawRead_beforeEntryPush {c : RawCell} (h1 : c ≠ .iff1) (h2 : c ≠ .iff2) (hh : c ≠ .halted) (hr : c ≠ .r) (hp : c ≠ .pc)
    (ht : c ≠ .t) : s.beforeEntryPush.rawRead c = s.rawRead c := by
  unfold State.beforeEntryPush; split <;> simp [h1, h2, hh, hr, hp, ht]

/-! What the entry leaves of each field. -/

@[simp] theorem interruptEntry_sp : s.interruptEntry.sp = s.sp - 2 := by simp [interruptEntry_eq]
@[simp] theorem interruptEntry_i : s.interruptEntry.i = s.i := by unfold State.interruptEntry; split <;> simp
@[simp] theorem interruptEntry_rLow : s.interruptEntry.rLow = s.rLow + 1 := by unfold State.interruptEntry; split <;> simp
@[simp] theorem interruptEntry_rB7 : s.interruptEntry.rB7 = s.rB7 := by unfold State.interruptEntry; split <;> simp
@[simp] theorem interruptEntry_iff1 : s.interruptEntry.iff1 = false := by unfold State.interruptEntry; split <;> simp
@[simp] theorem interruptEntry_iff2 : s.interruptEntry.iff2 = false := by unfold State.interruptEntry; split <;> simp
@[simp] theorem interruptEntry_im : s.interruptEntry.im = s.im := by unfold State.interruptEntry; split <;> simp
@[simp] theorem interruptEntry_halted : s.interruptEntry.halted = false := by simp [interruptEntry_eq]
@[simp] theorem interruptEntry_scr : s.interruptEntry.scr = s.scr := by unfold State.interruptEntry; split <;> simp
@[simp] theorem interruptEntry_eiDelay : s.interruptEntry.eiDelay = s.eiDelay := by unfold State.interruptEntry; split <;> simp
@[simp] theorem interruptEntry_faulted : s.interruptEntry.faulted = s.faulted := by unfold State.interruptEntry; split <;> simp
@[simp] theorem interruptEntry_resetDone : s.interruptEntry.resetDone = s.resetDone := by
  unfold State.interruptEntry; split <;> simp
@[simp] theorem interruptEntry_events : s.interruptEntry.events = s.events := by unfold State.interruptEntry; split <;> simp
@[simp] theorem interruptEntry_platform : s.interruptEntry.platform = s.platform := by simp [interruptEntry_eq]

theorem interruptEntry_t (hc : s.platform.contended = false) : s.interruptEntry.t = s.t + 13 := by
  rw [interruptEntry_eq, push_t _ (by simpa using hc), beforeEntryPush_t]

theorem wf_interruptEntry (hwf : s.mem.wf = true) : s.interruptEntry.mem.wf = true := by
  rw [interruptEntry_eq]
  exact wf_push _ _ ((beforeEntryPush_mem s).symm ▸ hwf)

theorem storedWord_interruptEntry (hwf : s.mem.wf = true) : StoredWord s s.interruptEntry (s.sp - 2) s.returnAddress := by
  rw [interruptEntry_eq, beforeEntryPush_pc]
  exact storedWord_push (by simp) (by simp) hwf (by simp) _

theorem sameCells_interruptEntry : SameCellsBut [.sp, .iff1, .iff2, .halted, .r] s s.interruptEntry := by
  intro c hc hp ht
  simp only [List.mem_cons, List.not_mem_nil, or_false, not_or] at hc
  obtain ⟨hs, h1, h2, hh, hr⟩ := hc
  rw [interruptEntry_eq, rawRead_push _ _ hs ht, rawRead_beforeEntryPush s h1 h2 hh hr hp ht]

/-- A push writes its two bytes alone (R58). -/
theorem peek_push_ne {u : State} {v b : Word} (hhi : b ≠ u.sp - 1) (hlo : b ≠ u.sp - 2) : (u.push v).peek b = u.peek b := by
  rw [push_eq, peek_memWrite_ne _ _ hlo]
  exact peek_memWrite_ne (u.setSp _) _ hhi

theorem sameMemory_interruptEntry : SameMemoryBut [s.sp - 1, s.sp - 2] s s.interruptEntry := by
  intro a ha
  simp only [List.mem_cons, List.not_mem_nil, or_false, not_or] at ha
  rw [interruptEntry_eq, peek_push_ne (by simpa using ha.1) (by simpa using ha.2)]
  exact peek_congr (by simp) a

end

/-! ### Acceptance by mode (R283 to R286) -/

/-- What an acceptance leaves in IM 2: PC is the word of the table entry (R284). -/
abbrev State.enterByTable (s : State) : State :=
  (s.interruptEntry.afterReadWord s.interruptEntry.im2Entry).setPc (s.interruptEntry.readWord s.interruptEntry.im2Entry)

/-- What an acceptance leaves in IM 0 and IM 1 (R283). -/
abbrev State.enterByVector (s : State) : State := s.interruptEntry.setPc Config.interruptVector

/-- What an acceptance leaves where IM is none of the three (R286). -/
def State.badMode (s : State) : State := s.interruptEntry.raise (.badInterruptMode s.im)

theorem acceptInterrupt_cases (s : State) :
    s.im ≤ 1 ∧ s.acceptInterrupt = .accepted s.enterByVector ∨ s.im = 2 ∧ s.acceptInterrupt = .accepted s.enterByTable
      ∨ 2 < s.im ∧ s.acceptInterrupt = .fault (.badInterruptMode s.im) s.badMode := by
  dsimp only [State.acceptInterrupt]
  rw [interruptEntry_im]
  split
  case h_1 him | h_2 him => exact .inl ⟨by omega, rfl⟩
  case h_3 him => exact .inr (.inl ⟨him, rfl⟩)
  case h_4 h0 h1 h2 => exact .inr (.inr ⟨by simp only [imp_false] at h0 h1 h2; omega, rfl⟩)

/-- The interrupt is looked at, and is enabled (R281, R282). -/
def Enabled (s : State) : Prop := s.resetDone = true ∧ s.faulted = none ∧ s.iff1 = true ∧ s.eiDelay = false

theorem interrupt_enabled {s : State} (h : Enabled s) : interrupt s = s.acceptInterrupt := by
  obtain ⟨hr, hf, h1, he⟩ := h
  simp [interrupt, hr, hf, h1, he]

theorem interrupt_disabled {s : State} (hr : s.resetDone = true) (hf : s.faulted = none) (h : s.iff1 = false ∨ s.eiDelay = true) :
    interrupt s = .declined s := by
  rcases h with h | h <;> simp [interrupt, hr, hf, h]

/-- What an accepted interrupt leaves. -/
theorem interrupt_accepted {s t : State} (h : interrupt s = .accepted t) : t = s.enterByVector ∨ t = s.enterByTable := by
  unfold interrupt at h
  split at h
  · split at h
    · cases h
    · split at h
      · rcases acceptInterrupt_cases s with ⟨-, hs⟩ | ⟨-, hs⟩ | ⟨-, hs⟩
        · exact .inl (by rw [hs] at h; cases h; rfl)
        · exact .inr (by rw [hs] at h; cases h; rfl)
        · rw [hs] at h; cases h
      · cases h
  · cases h

/-- Settles O22: an acceptance ends in the state accepted or in a fault, whatever the mode. -/
theorem interruptDeclined : Obligations.InterruptDeclined := by
  intro s hr hf
  refine ⟨fun h => ?_, interrupt_disabled hr hf⟩
  by_contra hen
  obtain ⟨h1, he⟩ := not_or.mp hen
  rw [interrupt_enabled ⟨hr, hf, Bool.not_eq_false _ ▸ h1, Bool.not_eq_true _ ▸ he⟩] at h
  rcases acceptInterrupt_cases s with ⟨-, hs⟩ | ⟨-, hs⟩ | ⟨-, hs⟩ <;> · rw [hs] at h; cases h

/-- Settles O13: no rule but LD R,A writes R, each opcode fetch advances it, and an acceptance advances it once. -/
theorem refreshCounter : Obligations.RefreshCounter := by
  refine ⟨fun i s t => exec_r, fun s i hrun hleaf hi => ?_, fun s t h => ?_⟩
  · obtain ⟨t, hexec, hstep⟩ := step_leaf hrun hleaf
    obtain ⟨hlow, hb7⟩ := exec_r hi hexec
    exact ⟨_, hstep, hlow.trans (fetchOps_rLow s _), hb7.trans (fetchOps_rB7 s _)⟩
  · rcases interrupt_accepted h with rfl | rfl
    · exact ⟨interruptEntry_rLow s, interruptEntry_rB7 s⟩
    · simp

theorem inv_interruptEntry {s : State} (h : Inv s) : Inv s.interruptEntry := by
  obtain ⟨hwf, him, -⟩ := h
  exact ⟨wf_interruptEntry s hwf, by simpa using him, by simp⟩

/-- Settles O16: the entry keeps the invariant, and with IM at most 2 it ends in no fault. -/
theorem interruptKeepsInv : Obligations.InterruptKeepsInv := by
  intro s hinv hr hf
  by_cases hdeclined : s.iff1 = false ∨ s.eiDelay = true
  · exact .inl (interrupt_disabled hr hf hdeclined)
  · obtain ⟨h1, he⟩ := not_or.mp hdeclined
    rw [interrupt_enabled ⟨hr, hf, Bool.not_eq_false _ ▸ h1, Bool.not_eq_true _ ▸ he⟩]
    rcases acceptInterrupt_cases s with ⟨-, hs⟩ | ⟨-, hs⟩ | ⟨hbad, -⟩
    · exact .inr ⟨_, hs, (inv_interruptEntry hinv).congr rfl rfl rfl rfl⟩
    · exact .inr ⟨_, hs, (inv_interruptEntry hinv).congr (by simp) (by simp) (by simp) (by simp)⟩
    · exact absurd hinv.2.1 (Nat.not_le_of_lt hbad)

/-- Settles O24: the fault comes after the push, and a recorded fault answers the next step. -/
theorem interruptBadMode : Obligations.InterruptBadMode := by
  intro s hr hf h1 he hbad hwf
  rcases acceptInterrupt_cases s with ⟨him, -⟩ | ⟨him, -⟩ | ⟨-, hs⟩
  · omega
  · omega
  · refine ⟨s.badMode, (interrupt_enabled ⟨hr, hf, h1, he⟩).trans hs, rfl, interruptEntry_sp s,
      storedWord_interruptEntry s hwf, interruptEntry_iff1 s, interruptEntry_iff2 s, ?_⟩
    have hreset : s.badMode.resetDone = true := (interruptEntry_resetDone s).trans hr
    simp only [step, runStep, if_pos hreset]
    rfl

theorem im2Entry_interruptEntry (s : State) : s.interruptEntry.im2Entry = mkWord s.i 0xFF := by
  rw [State.im2Entry, interruptEntry_i]; rfl

/-- Settles O23: in each mode the acceptance is the entry, with PC set, in IM 2 after the read of the table entry. -/
theorem interruptAcceptance : Obligations.InterruptAcceptance := by
  intro s hr hf h1 he him hwf
  have hstored := storedWord_interruptEntry s hwf
  have hcells := sameCells_interruptEntry s
  have hmemory := sameMemory_interruptEntry s
  rw [interrupt_enabled ⟨hr, hf, h1, he⟩]
  rcases acceptInterrupt_cases s with ⟨hle, hs⟩ | ⟨htwo, hs⟩ | ⟨hbad, -⟩
  · have hne : s.im ≠ 2 := by omega
    exact ⟨_, hs, hstored, by simp, by simp, by simp, by simp, by simp, by simp, fun _ => rfl, fun h => absurd h hne,
      fun h => absurd h hne, fun hc => by rw [if_neg hne]; exact interruptEntry_t s hc,
      fun c hc hp ht => (rawRead_setPc _ _ hp).trans (hcells c hc hp ht), hmemory, by simp, by simp, by simp, by simp [hf]⟩
  · have hpeek (a : Word) : s.enterByTable.peek a = s.interruptEntry.peek a := peek_congr (by simp) a
    refine ⟨_, hs, ⟨(hpeek _).trans hstored.1, (hpeek _).trans hstored.2⟩, by simp, by simp, by simp, by simp, by simp, by simp,
      fun h => by omega, fun _ ha ha1 => ?_, fun _ => ?_, fun hc => ?_, fun c hc hp ht => ?_,
      fun a ha => (hpeek a).trans (hmemory a ha), by simp, by simp, by simp, by simp [hf]⟩
    · rw [hpeek, hpeek, ← toNat_readWord_plain (by rwa [kindAt_congr (interruptEntry_platform s)])
        (by rwa [kindAt_congr (interruptEntry_platform s)]), setPc_pc, im2Entry_interruptEntry]
    · rw [setPc_pc, im2Entry_interruptEntry]
    · rw [setPc_t, afterReadWord_t _ (by simpa using hc), interruptEntry_t s hc, if_pos htwo]
    · rw [rawRead_setPc _ _ hp, rawRead_afterReadWord _ _ ht, hcells c hc hp ht]
  · exact absurd him (Nat.not_le_of_lt hbad)

@[simp] theorem returnFromInterrupt_sp (s : State) : s.returnFromInterrupt.sp = s.sp + 2 := by simp [State.returnFromInterrupt]
@[simp] theorem returnFromInterrupt_iff1 (s : State) : s.returnFromInterrupt.iff1 = s.iff2 := by
  simp [State.returnFromInterrupt]
@[simp] theorem returnFromInterrupt_halted (s : State) : s.returnFromInterrupt.halted = s.halted := by
  simp [State.returnFromInterrupt]

@[simp] theorem returnFromInterrupt_pc (s : State) : s.returnFromInterrupt.pc = s.readWord s.sp :=
  readWord_congr (setIffs_platform s _ _) (setIffs_mem s _ _) (setIffs_draws s _ _) (setIffs_answers s _ _) s.sp

/-- The state a step at HALT leaves: PC is back on the opcode (R260). -/
def State.haltedAt (s : State) : State := (((s.fetchOps 1).setHalted true).setPc ((s.fetchOps 1).pc - 1)).setEiDelay false

/-- Settles O25: the entry pushes the address past the HALT, and RETI pops it. -/
theorem haltWaitsForTheInterrupt : Obligations.HaltWaitsForTheInterrupt := by
  intro s hrun hleaf h1 him hwf hram1 hram2
  obtain ⟨_, hexec, hstep⟩ := step_leaf hrun hleaf
  cases hexec
  obtain ⟨hr, hf, -⟩ := hrun
  have hpc : s.haltedAt.pc = s.pc := by simp [State.haltedAt]
  have hsp : s.haltedAt.sp = s.sp := by simp [State.haltedAt]
  have hkind (a : Word) : s.haltedAt.kindAt a = s.kindAt a := kindAt_congr (by simp [State.haltedAt]) a
  have hen : Enabled s.haltedAt :=
    ⟨by simp [State.haltedAt, hr], by simp [State.haltedAt, hf], by simp [State.haltedAt, h1], rfl⟩
  have haccept : s.haltedAt.acceptInterrupt = .accepted s.haltedAt.enterByVector := by
    rcases acceptInterrupt_cases s.haltedAt with ⟨-, hs⟩ | ⟨htwo, -⟩ | ⟨hbad, -⟩
    · exact hs
    · simp [State.haltedAt, him] at htwo
    · simp [State.haltedAt, him] at hbad
  have hpushed : StoredWord s.haltedAt s.haltedAt.enterByVector (s.haltedAt.sp - 2) (s.pc + 1) :=
    hpc ▸ storedWord_interruptEntry s.haltedAt (by simpa [State.haltedAt] using hwf)
  refine ⟨s.haltedAt, s.haltedAt.enterByVector, s.haltedAt.enterByVector.returnFromInterrupt, hstep, rfl, hpc,
    (interrupt_enabled hen).trans haccept, rfl, rfl, ?_, ?_, by simp, by simp⟩
  · rw [returnFromInterrupt_pc]
    exact readWord_of_push hpushed (by simp) (by rw [hkind, hsp, hram1]) (by rw [hkind, hsp, hram2]) (by simp)
  · rw [returnFromInterrupt_sp, setPc_sp, interruptEntry_sp, hsp, BitVec.sub_add_cancel]

end Sys2Proof.Machine
end

section
/-! The host's calls: reset, the stopped machine, the raw accessors and the run to a budget (R45, R46, R288, R294, R295, R300). -/

namespace Sys2Proof.Machine

/-! ### The run (R295) -/

theorem step_idle {s : State} (hr : s.resetDone = true) (hf : s.faulted = none) (hh : s.halted = true) :
    step s = .next (idleStep s) := by
  simp [step, runStep, hr, hf, hh]

/-- The latches the host sees are the same after a step. -/
theorem step_latches {s t : State} (h : step s = .next t) : t.resetDone = true ∧ t.faulted = none := by
  obtain ⟨hr, hf, ⟨-, rfl⟩ | ⟨-, m, i, u, -, -, hexec, rfl⟩⟩ := step_cases h
  · exact ⟨by simpa [idleStep] using hr, by simpa [idleStep] using hf⟩
  · obtain ⟨-, -, -, -, -, -, hfaulted, hreset, -⟩ := exec_frame _ _ _ hexec
    exact ⟨hreset.trans (by simpa using hr), hfaulted.trans (by simpa using hf)⟩

/-- A machine that is reset and not faulted takes a step, or is at a chain without end (log 8). -/
theorem step_ready {s : State} (hr : s.resetDone = true) (hf : s.faulted = none) :
    (∃ t, step s = .next t) ∨ step s = .fault .endlessPrefixChain := by
  cases hh : s.halted with
  | true => exact .inl ⟨_, step_idle hr hf hh⟩
  | false => exact (everyStepCompletes s ⟨hr, hf, hh⟩).imp And.left And.left

/-- The steps that the loop is given are enough, since each adds to T. -/
theorem runLoop_t_le {n budget : Nat} {s t : State} (h : runLoop n budget s = .next t) (hn : budget ≤ s.t + n) :
    budget ≤ t.t := by
  induction n generalizing s with
  | zero => cases h; exact hn
  | succ n ih =>
    rw [runLoop] at h
    split at h
    · split at h
      next s1 hstep =>
        have hadds := stepTiming.1 s s1 hstep
        exact ih h (by omega)
      all_goals cases h
    · cases h; omega

theorem runLoop_ready (n budget : Nat) {s : State} (hr : s.resetDone = true) (hf : s.faulted = none) :
    (∃ t, runLoop n budget s = .next t) ∨ runLoop n budget s = .fault .endlessPrefixChain := by
  induction n generalizing s with
  | zero => exact .inl ⟨s, rfl⟩
  | succ n ih =>
    rw [runLoop]
    split
    · rcases step_ready hr hf with ⟨t, hstep⟩ | hstep
      · rw [hstep]
        exact ih (step_latches hstep).1 (step_latches hstep).2
      · exact .inr (by rw [hstep])
    · exact .inl ⟨s, rfl⟩

theorem runToBudget_ready {s : State} (hr : s.resetDone = true) (hf : s.faulted = none) (budget : Nat) :
    runToBudget budget s = runLoop (budget - s.t) budget s := by
  simp [runToBudget, hr, hf]

/-- One T-state more than there is lets the loop take one step. -/
theorem runLoop_one (s : State) : runLoop 1 (s.t + 1) s = step s := by
  rw [runLoop, if_pos (Nat.lt_succ_self _)]
  cases step s <;> rfl

/-- Settles O17: a step adds to T, and ends in a next state or in the fault of an endless chain. -/
theorem State.runToBudget : Obligations.RunToBudget := by
  refine ⟨fun budget s t h => ?_, fun budget s hr hf hle => ?_, fun s => ?_, fun budget s hr hf => ?_⟩
  · cases hr : s.resetDone with
    | false => simp [Machine.runToBudget, hr] at h
    | true =>
      cases hf : s.faulted with
      | some r => simp [Machine.runToBudget, hr, hf] at h
      | none =>
        rw [runToBudget_ready hr hf] at h
        exact runLoop_t_le h (by omega)
  · rw [runToBudget_ready hr hf, Nat.sub_eq_zero_of_le hle]; rfl
  · cases hr : s.resetDone with
    | false => simp [Machine.runToBudget, step, runStep, hr]
    | true =>
      cases hf : s.faulted with
      | some r => simp [Machine.runToBudget, step, runStep, hr, hf]
      | none => rw [runToBudget_ready hr hf, Nat.add_sub_cancel_left, runLoop_one]
  · rw [runToBudget_ready hr hf]
    exact runLoop_ready _ _ hr hf

/-! ### Reset, the stopped machine and the halted one -/

/-- Settles O8: the latches are the first that every call looks at. -/
theorem stoppedMachine : Obligations.StoppedMachine := by
  refine ⟨fun _ _ => ⟨rfl, rfl, rfl, rfl⟩, fun s c p v w hr => ?_, fun s budget hr => ?_, fun s r budget hr hf => ?_⟩
  · simp [readCell, readPair, writeCell, writePair, hr, hostReset, State.reset]
  · simp [step, runStep, Machine.runToBudget, interrupt, hr]
  · simp [step, runStep, Machine.runToBudget, interrupt, hr, hf]

/-- Settles O9: the idle step is one tick, the bump of R and the latch EIdelay cleared. -/
theorem haltedIdleStep : Obligations.HaltedIdleStep := by
  intro s hr hf hh
  refine ⟨idleStep s, step_idle hr hf hh, ?_, ?_, rfl, ?_, tick_le s _ _ 4, tick_t s _ _ 4, fun c hc _ ht => ?_, ?_⟩
  · simp [idleStep]
  · simp [idleStep]
  · simp [idleStep]
  · rw [List.mem_singleton] at hc
    simp [idleStep, hc, ht]
  · simp [idleStep, hr, hf]

/-- Settles O14: the reset state has no memory entry, IM 0 and both flip-flops 0; reset() keeps the memory there is. -/
theorem invAtReset : Obligations.InvAtReset :=
  ⟨⟨rfl, Nat.zero_le 2, rfl⟩, fun _ hwf => ⟨hwf, Nat.zero_le 2, rfl⟩⟩

theorem rawRead_hostReset (s : State) (c : RawCell) : (hostReset s).rawRead c = 0 := by
  cases c with
  | reg r | shadowReg r => cases r <;> rfl
  | half xy h => cases xy <;> cases h <;> rfl
  | r => exact (by decide : State.reset.rawRead .r = 0)
  | _ => rfl

/-- Settles O20: cell by cell. -/
theorem resetValues : Obligations.ResetValues :=
  fun s => ⟨rawRead_hostReset s, rfl, rfl, rfl, rfl, rfl, rfl, rfl, rfl, rfl⟩

/-! ### The raw accessors (R46) -/

/-- A write of R is read back from its two parts (R32). -/
@[simp] theorem setR_rByte (s : State) (v : Byte) : (s.setR v).rByte = v := by
  have hparts : BitVec.ofBool (v.getLsbD 7) ++ v.extractLsb' 0 7 = v := by revert v; decide
  exact hparts

/-- A bit cell holds the parity of what is written to it, which is the number itself where it fits. -/
theorem toNat_odd {v : Nat} (hv : v < 2) : (v % 2 == 1).toNat = v := by
  interval_cases v <;> rfl

section
variable (s : State) (c : RawCell) (v : Nat)

theorem rawRead_rawWrite_self (hv : ∀ b, cellBound c = some b → v < b) : (s.rawWrite c v).rawRead c = v := by
  cases c with
  | reg r | f | shadowReg r | shadowF | half xy h | i | r =>
    have hlt : v < 256 := hv 256 rfl
    simp [State.rawWrite, State.rawRead, Nat.mod_eq_of_lt hlt]
  | sp | pc =>
    have hlt : v < 65536 := hv 65536 rfl
    simp [State.rawWrite, State.rawRead, Nat.mod_eq_of_lt hlt]
  | iff1 | iff2 | halted => exact toNat_odd (hv 2 rfl)
  | im | t => rfl

variable {c} in
theorem rawRead_rawWrite_ne {c' : RawCell} (h : c' ≠ c) : (s.rawWrite c v).rawRead c' = s.rawRead c' := by
  cases c with
  | reg r => exact rawRead_setR8 s r _ h
  | f => exact rawRead_setF s _ h
  | shadowReg r =>
    exact rawRead_setShadow s _ (fun q hq => get_set_ne _ _ fun hqr => h (hqr ▸ hq)) fun _ => set_f _ _ _
  | shadowF => exact rawRead_setShadow s _ (fun q _ => by cases q <;> rfl) fun hf => absurd hf h
  | half xy g => exact rawRead_setHalf s xy g _ h
  | sp => exact rawRead_setSp s _ h
  | pc => exact rawRead_setPc s _ h
  | i => exact rawRead_setI s _ h
  | r => exact rawRead_setR s _ h
  | iff1 =>
    by_cases h2 : c' = .iff2
    · subst h2; rfl
    · exact rawRead_setIffs s _ _ h h2
  | iff2 =>
    by_cases h1 : c' = .iff1
    · subst h1; rfl
    · exact rawRead_setIffs s _ _ h1 h
  | im => exact rawRead_setIm s _ h
  | halted => exact rawRead_setHalted s _ h
  | t => exact rawRead_congr (s := s) (t := { s with t := v }) rfl rfl rfl rfl rfl rfl rfl rfl rfl rfl rfl rfl (.inr rfl) (.inl h)

/-- No cell is among these. -/
theorem rawWrite_rest : (s.rawWrite c v).mem = s.mem ∧ (s.rawWrite c v).scr = s.scr ∧ (s.rawWrite c v).eiDelay = s.eiDelay
      ∧ (s.rawWrite c v).faulted = s.faulted ∧ (s.rawWrite c v).platform = s.platform
      ∧ (s.rawWrite c v).resetDone = s.resetDone ∧ (s.rawWrite c v).events = s.events
      ∧ (s.rawWrite c v).draws = s.draws ∧ (s.rawWrite c v).answers = s.answers := by
  cases c <;> simp [State.rawWrite]

end

/-- Settles O19: each cell is read back, and a write of it shows in no other cell. -/
theorem rawAccessors : Obligations.RawAccessors := by
  intro s c v hv
  have hself := rawRead_rawWrite_self s c v hv
  obtain ⟨hmem, hscr, hei, hfaulted, hplatform, hreset, hevents, hdraws, hanswers⟩ := rawWrite_rest s c v
  refine ⟨hself, fun c' => rawRead_rawWrite_ne s v, hmem, hscr, hei, hfaulted, hplatform, hreset, hevents, hdraws, hanswers,
    fun hr => ?_⟩
  simp [readCell, writeCell, hr, hreset, hself]

end Sys2Proof.Machine
end

section
/-! DAA, CCF and SCF (R161, R164, R165) and the laws of decimal arithmetic. -/

namespace Sys2Proof.Machine

section
variable (a f r : Byte)

theorem toNat_daaCorrection :
    (daaCorrection a f).toNat = (if f.getLsbD 4 || decide (9 < a.toNat % 16) then 6 else 0)
      + if f.getLsbD 0 || decide (0x99 < a.toNat) then 0x60 else 0 := by
  rw [daaCorrection, toNat_and_0F, carryOf]
  generalize (f.getLsbD 4 || decide (9 < a.toNat % 16)) = low
  generalize (f.getLsbD 0 || decide (0x99 < a.toNat)) = high
  revert low high; decide

theorem toNat_daaA :
    (daaA a f).toNat = (if f.getLsbD 1 then a.toNat + 256 - (daaCorrection a f).toNat else a.toNat + (daaCorrection a f).toNat)
      % 256 := by
  have hcorr := (daaCorrection a f).isLt
  rw [daaA]
  split
  · rw [toNat_sub8, Bool.toNat_false]; omega
  · rw [toNat_add8, Bool.toNat_false, Nat.add_zero]

/-- PV and C put in the place of those of a sum or a difference. -/
theorem flagBits_with_pv_c (c : Bool) :
    flagBits ((f &&& ~~~(flagC ||| flagPV)) ||| flagIf c flagC ||| parity r) =
      { flagBits f with pv := evenParity r, c := c } := by
  simp only [parity_eq_flagIf, flagBits, BitVec.getLsbD_or, BitVec.getLsbD_and, flagIf_bit]
  simp

theorem flagBits_daaF :
    flagBits (daaF a f) =
      { s := (daaA a f).getLsbD 7, z := daaA a f == 0, x5 := (daaA a f).getLsbD 5
        h := if f.getLsbD 1 then decide (a.toNat % 16 < (daaCorrection a f).toNat % 16)
          else decide (16 ≤ a.toNat % 16 + (daaCorrection a f).toNat % 16)
        x3 := (daaA a f).getLsbD 3, pv := evenParity (daaA a f), n := f.getLsbD 1
        c := f.getLsbD 0 || decide (0x99 < a.toNat) } := by
  rw [daaF, flagBits_with_pv_c]
  cases hn : f.getLsbD 1 with
  | true => simp only [if_true, flagBits_sub8F, subFlags, daaA, hn, Bool.toNat_false, Nat.add_zero, carryOf]
  | false => simp only [Bool.false_eq_true, if_false, flagBits_add8F, addFlags, daaA, hn, Bool.toNat_false, Nat.add_zero, carryOf]

theorem flagBits_ccfF :
    flagBits (ccfF f a) = { flagBits f with
      x5 := a.getLsbD 5, h := f.getLsbD 0, x3 := a.getLsbD 3, n := false, c := !f.getLsbD 0 } := by
  have hone : (if carryOf f then flagH else flagC) = flagIf (f.getLsbD 0) flagH ||| flagIf (!f.getLsbD 0) flagC := by
    rw [carryOf]; cases f.getLsbD 0 <;> rfl
  simp only [ccfF, hone, flagBits, BitVec.getLsbD_or, BitVec.getLsbD_and, flagIf_bit]
  simp

theorem flagBits_scfF :
    flagBits (scfF f a) = { flagBits f with x5 := a.getLsbD 5, h := false, x3 := a.getLsbD 3, n := false, c := true } := by
  simp [flagBits, scfF]

end

/-- Settles O39: DAA is an addition or a subtraction of its correction, with PV and C replaced. -/
theorem decimalAdjustAndCarry : Obligations.DecimalAdjustAndCarry := by
  intro s
  refine ⟨?_, exec_next_and rfl (flagBits_ccfF _ _), exec_next_and rfl (flagBits_scfF _ _)⟩
  intro low high corr
  have hcorr : corr = (daaCorrection s.main.a s.f).toNat := (toNat_daaCorrection s.main.a s.f).symm
  rw [hcorr]
  exact exec_next_and rfl ⟨toNat_daaA s.main.a s.f, flagBits_daaF s.main.a s.f⟩

/-! ### Decimal addition and subtraction -/

/-- The two decimal digits of a number below 100. -/
def bcd (x : Nat) : Byte := BitVec.ofNat 8 (x / 10 * 16 + x % 10)

theorem toNat_bcd {p q : Nat} (hp : p < 10) (hq : q < 10) : (bcd (10 * p + q)).toNat = 16 * p + q := by
  rw [bcd, BitVec.toNat_ofNat]; omega

/-- A number below 100 by its digits. -/
theorem exists_digits {x : Nat} (hx : x < 100) : ∃ p q, p < 10 ∧ q < 10 ∧ x = 10 * p + q :=
  ⟨x / 10, x % 10, by omega, by omega, by omega⟩

/-! The sum of two decimal numbers as a number in base 16: `m` and `n` are the sums of the high and of the low digits. -/

section
variable {m n p q r t u v : Nat}

/-- A sum of decimal digits passes 0x99 where the sum of the numbers passes 99. -/
theorem decimal_add_high (hm : m ≤ 18) (hn : n ≤ 18) :
    256 ≤ 16 * m + n ∨ 0x99 < (16 * m + n) % 256 ↔ 100 ≤ 10 * m + n := by omega

theorem decimal_add_digits (hm : m ≤ 18) (hn : n ≤ 18) (hv : v < 10) (hsum : (10 * m + n) % 100 = 10 * u + v) :
    ((16 * m + n) % 256 + ((if 10 ≤ n then 6 else 0) + if 100 ≤ 10 * m + n then 0x60 else 0)) % 256 = 16 * u + v := by
  split <;> split
  · have hdigits : v = n - 10 ∧ u = m + 1 - 10 := by omega
    omega
  · have hdigits : v = n - 10 ∧ u = m + 1 := by omega
    omega
  · have hdigits : v = n ∧ u = m - 10 := by omega
    omega
  · have hdigits : v = n ∧ u = m := by omega
    omega

/-- A difference of decimal digits borrows, or is above 0x99, where the first number is the less. -/
theorem decimal_sub_high (hp : p < 10) (hq : q < 10) (hr : r < 10) (ht : t < 10) :
    16 * p + q < 16 * r + t ∨ 0x99 < (16 * p + q + 512 - (16 * r + t)) % 256 ↔ 10 * p + q < 10 * r + t := by
  rcases Nat.lt_trichotomy p r with h | h | h <;> omega

theorem decimal_sub_digits (hp : p < 10) (hq : q < 10) (hr : r < 10) (ht : t < 10) (hv : v < 10)
    (hdiff : (10 * p + q + 100 - (10 * r + t)) % 100 = 10 * u + v) :
    ((16 * p + q + 512 - (16 * r + t)) % 256 + 256
      - ((if q < t then 6 else 0) + if 10 * p + q < 10 * r + t then 0x60 else 0)) % 256 = 16 * u + v := by
  split <;> split
  · have hdigits : v = q + 10 - t ∧ u = p + 9 - r := by omega
    omega
  · have hdigits : v = q + 10 - t ∧ u = p - 1 - r := by omega
    omega
  · have hdigits : v = q - t ∧ u = p + 10 - r := by omega
    omega
  · have hdigits : v = q - t ∧ u = p - r := by omega
    omega

end

/-- The correction after a decimal addition is 6 for each digit that has passed 9 (R161). -/
theorem daa_add_bcd {x y : Nat} (hx : x < 100) (hy : y < 100) :
    daaA (add8 (bcd x) (bcd y) false) (add8F (bcd x) (bcd y) false) = bcd ((x + y) % 100)
      ∧ (flagBits (daaF (add8 (bcd x) (bcd y) false) (add8F (bcd x) (bcd y) false))).c = decide (100 ≤ x + y) := by
  have hf := flagBits_add8F (bcd x) (bcd y) false
  have ha := toNat_add8 (bcd x) (bcd y) false
  generalize add8 (bcd x) (bcd y) false = a at *
  generalize add8F (bcd x) (bcd y) false = f at *
  have hn : f.getLsbD 1 = false := congrArg FlagBits.n hf
  have hc : f.getLsbD 0 = decide (256 ≤ (bcd x).toNat + (bcd y).toNat) := congrArg FlagBits.c hf
  have hh : f.getLsbD 4 = decide (16 ≤ (bcd x).toNat % 16 + (bcd y).toNat % 16) := congrArg FlagBits.h hf
  obtain ⟨p, q, hp, hq, rfl⟩ := exists_digits hx
  obtain ⟨r, t, hr, ht, rfl⟩ := exists_digits hy
  obtain ⟨u, v, hu, hv, hsum⟩ := exists_digits (Nat.mod_lt (10 * p + q + (10 * r + t)) (by decide : 100 > 0))
  have hm : p + r ≤ 18 := by omega
  have hl : q + t ≤ 18 := by omega
  have htens : 10 * p + q + (10 * r + t) = 10 * (p + r) + (q + t) := by omega
  have hbytes : 16 * p + q + (16 * r + t) = 16 * (p + r) + (q + t) := by omega
  rw [toNat_bcd hp hq, toNat_bcd hr ht, hbytes] at hc ha
  rw [toNat_bcd hp hq, toNat_bcd hr ht] at hh
  rw [Bool.toNat_false, Nat.add_zero] at ha
  rw [htens] at hsum
  have hlow : (f.getLsbD 4 || decide (9 < a.toNat % 16)) = decide (10 ≤ q + t) := by
    rw [hh, Bool.eq_iff_iff]; simp only [Bool.or_eq_true, decide_eq_true_eq]; omega
  have hhigh : (f.getLsbD 0 || decide (0x99 < a.toNat)) = decide (100 ≤ 10 * (p + r) + (q + t)) := by
    rw [hc, ha, Bool.eq_iff_iff]; simpa only [Bool.or_eq_true, decide_eq_true_eq] using decimal_add_high hm hl
  rw [htens]
  refine ⟨BitVec.eq_of_toNat_eq ?_, by rw [flagBits_daaF]; exact hhigh⟩
  rw [toNat_daaA, hsum, toNat_bcd hu hv, toNat_daaCorrection, hn, hlow, hhigh, ha]
  simpa only [decide_eq_true_eq, Bool.false_eq_true, if_false] using decimal_add_digits hm hl hv hsum

/-- The correction after a decimal subtraction is 6 for each digit that has borrowed (R161). -/
theorem daa_sub_bcd {x y : Nat} (hx : x < 100) (hy : y < 100) :
    daaA (sub8 (bcd x) (bcd y) false) (sub8F (bcd x) (bcd y) false) = bcd ((x + 100 - y) % 100)
      ∧ (flagBits (daaF (sub8 (bcd x) (bcd y) false) (sub8F (bcd x) (bcd y) false))).c = decide (x < y) := by
  have hf := flagBits_sub8F (bcd x) (bcd y) false
  have ha := toNat_sub8 (bcd x) (bcd y) false
  generalize sub8 (bcd x) (bcd y) false = a at *
  generalize sub8F (bcd x) (bcd y) false = f at *
  have hn : f.getLsbD 1 = true := congrArg FlagBits.n hf
  have hc : f.getLsbD 0 = decide ((bcd x).toNat < (bcd y).toNat) := congrArg FlagBits.c hf
  have hh : f.getLsbD 4 = decide ((bcd x).toNat % 16 < (bcd y).toNat % 16) := congrArg FlagBits.h hf
  obtain ⟨p, q, hp, hq, rfl⟩ := exists_digits hx
  obtain ⟨r, t, hr, ht, rfl⟩ := exists_digits hy
  obtain ⟨u, v, hu, hv, hdiff⟩ := exists_digits (Nat.mod_lt (10 * p + q + 100 - (10 * r + t)) (by decide : 100 > 0))
  rw [toNat_bcd hp hq, toNat_bcd hr ht] at hc hh ha
  rw [Bool.toNat_false, Nat.sub_zero] at ha
  have hlow : (f.getLsbD 4 || decide (9 < a.toNat % 16)) = decide (q < t) := by
    rw [hh, Bool.eq_iff_iff]; simp only [Bool.or_eq_true, decide_eq_true_eq]; omega
  have hhigh : (f.getLsbD 0 || decide (0x99 < a.toNat)) = decide (10 * p + q < 10 * r + t) := by
    rw [hc, ha, Bool.eq_iff_iff]; simpa only [Bool.or_eq_true, decide_eq_true_eq] using decimal_sub_high hp hq hr ht
  refine ⟨BitVec.eq_of_toNat_eq ?_, by rw [flagBits_daaF]; exact hhigh⟩
  rw [toNat_daaA, hdiff, toNat_bcd hu hv, toNat_daaCorrection, hn, hlow, hhigh, ha]
  simpa only [decide_eq_true_eq, if_true] using decimal_sub_digits hp hq hr ht hv hdiff

/-- Taking the operand away again borrows where adding it carried. -/
theorem sub8_add8 (a b : Byte) :
    sub8 (add8 a b false) b false = a
      ∧ (flagBits (sub8F (add8 a b false) b false)).c = (flagBits (add8F a b false)).c
      ∧ (flagBits (sub8F (add8 a b false) b false)).h = (flagBits (add8F a b false)).h := by
  have hsum := toNat_add8 a b false
  have ha := a.isLt
  have hb := b.isLt
  rw [Bool.toNat_false, Nat.add_zero] at hsum
  refine ⟨BitVec.eq_of_toNat_eq (by rw [toNat_sub8, hsum, Bool.toNat_false]; omega), ?_, ?_⟩
  · rw [flagBits_sub8F, flagBits_add8F, subFlags, addFlags, hsum, Bool.toNat_false, Bool.eq_iff_iff, decide_eq_true_eq,
      decide_eq_true_eq]
    omega
  · rw [flagBits_sub8F, flagBits_add8F, subFlags, addFlags, hsum, Bool.toNat_false, Bool.eq_iff_iff, decide_eq_true_eq,
      decide_eq_true_eq]
    omega

/-- Settles O40: on decimal digits DAA corrects the digits that have carried or borrowed; the laws are those of bytes. -/
theorem lawsOfArithmetic : Obligations.LawsOfArithmetic := by
  refine ⟨fun x y s hx hy ha => ⟨⟨_, _, rfl, rfl, ?_⟩, _, _, rfl, rfl, ?_⟩, fun b s => ⟨_, _, rfl, rfl, sub8_add8 s.main.a b⟩⟩
  · have hmod : (x + y) % 100 % 10 = (x + y) % 10 := Nat.mod_mod_of_dvd _ (by decide)
    have hbcd := daa_add_bcd hx hy
    rw [bcd, bcd, bcd, ← ha, hmod] at hbcd
    exact hbcd
  · have hmod : (x + 100 - y) % 100 % 10 = (x + 100 - y) % 10 := Nat.mod_mod_of_dvd _ (by decide)
    have hbcd := daa_sub_bcd hx hy
    rw [bcd, bcd, bcd, ← ha, hmod] at hbcd
    exact hbcd

end Sys2Proof.Machine
end

section
/-! The copy forms of the indexed-CB region and the bit tests (R194, R195, R198). -/

namespace Sys2Proof.Machine

/-! ### The copy forms: an indexed form, and the result in a register -/

section
variable (s : State) (xy : XY) (d : Byte) (r : R8)

theorem exec_shiftCopyForm (op : Shift) : exec (shiftCopyForm op xy d r) s = .next (s.shiftIndexedCopy op xy d r) := by
  cases op <;> rfl

theorem shiftIndexedCopy_eq (op : Shift) :
    s.shiftIndexedCopy op xy d r
      = (s.shiftIndexed op xy d).setR8 r (op.result ((s.enterIndexedCb xy d).byteAt (s.eaXy xy d)) (carryOf s.f)) := by
  rw [State.shiftIndexedCopy, enterIndexedCb_scr, enterIndexedCb_f, shiftIndexed_eq]

theorem changeIndexedCopy_eq (g : Byte → Byte) :
    s.changeIndexedCopy g xy d r
      = (s.changeIndexed g xy d).setR8 r (g ((s.enterIndexedCb xy d).byteAt (s.eaXy xy d))) := by
  rw [State.changeIndexedCopy, enterIndexedCb_scr, changeIndexed_eq]

/-- A copy into a register adds the register's new value to what the indexed form leaves. -/
theorem indexedCopy_spec {u : State} {a : Word} {v f : Byte} (h : Stored s u a v ∧ u.scr = a ∧ u.f = f) :
    Stored s (u.setR8 r v) a v ∧ (u.setR8 r v).r8 r = v ∧ (u.setR8 r v).scr = a ∧ (u.setR8 r v).f = f := by
  obtain ⟨hstored, hscr, hf⟩ := h
  exact ⟨hstored, setR8_r8 u v r, hscr, (setR8_f u v r).trans hf⟩

end

/-- Settles O46: a copy form is the indexed form, whose result is then put into the register. -/
theorem copyForms : Obligations.CopyForms := by
  intro xy d r s hwf ea v
  refine ⟨fun op => ?_, fun b => ⟨?_, ?_⟩⟩
  · rw [shiftByArithmetic_eq]
    refine exec_next_and (exec_shiftCopyForm s xy d r op) ?_
    rw [shiftIndexedCopy_eq]
    obtain ⟨hstored, hr, hscr, hf⟩ := indexedCopy_spec _ r (shiftIndexed_spec xy d hwf op)
    exact ⟨hstored, hr, hscr, hf ▸ flagBits_shiftFlags _ _ _⟩
  · rw [← resBit_eq_ofNat]
    refine exec_next_and rfl ?_
    rw [changeIndexedCopy_eq]
    exact indexedCopy_spec _ r (changeIndexed_spec xy d hwf _)
  · rw [← setBit_eq_ofNat]
    refine exec_next_and rfl ?_
    rw [changeIndexedCopy_eq]
    exact indexedCopy_spec _ r (changeIndexed_spec xy d hwf _)

/-! ### The bit tests -/

theorem flagBits_bitF (f v x : Byte) (b : BitVec 3) :
    flagBits (bitF f v x b) =
      { s := b == 7 && v.getLsbD 7, z := !v.getLsbD b.toNat, x5 := x.getLsbD 5, h := true, x3 := x.getLsbD 3,
        pv := !v.getLsbD b.toNat, n := false, c := f.getLsbD 0 } := by
  simp only [bitF, flagBits, BitVec.getLsbD_or, BitVec.getLsbD_and, flagIf_bit]
  simp

/-- Settles O47: each form writes F alone, from the bit tested and the byte X5 and X3 come from. -/
theorem bitTests : Obligations.BitTests := by
  intro b s ok
  have hmem (u : State) (hf : u.f = s.f) (hm : u.mem = s.mem) (a : Word) (x : Byte) :
      ok (u.byteAt a) x (u.bitMem b a x) :=
    ⟨hf ▸ flagBits_bitF _ _ _ _, by simp [State.bitMem, hm]⟩
  refine ⟨fun r => exec_next_and rfl ⟨flagBits_bitF _ _ _ _, by simp⟩, exec_next_and rfl (hmem s rfl rfl _ _),
    fun xy d z => exec_next_and rfl ?_⟩
  rw [State.bitIndexed, enterIndexedCb_scr, hiByte_eq_ofNat]
  exact ⟨(by simp [State.bitMem] : _ = s.eaXy xy d), hmem _ (enterIndexedCb_f s xy d) (enterIndexedCb_mem s xy d) _ _⟩

end Sys2Proof.Machine
end

section
/-! The block instructions (R230 to R249): the single form and the repeating form of each, both directions. -/

namespace Sys2Proof.Machine

/-! ### F as its flags -/

theorem pred_bne_zero (w : Word) : (w - 1 != 0) = (w != 1) := by
  rw [Bool.eq_iff_iff, bne_iff_ne, bne_iff_ne, ne_eq, pred_eq_zero]

theorem pred_bne_zero8 (w : Byte) : (w - 1 != 0) = (w != 1) := by
  rw [Bool.eq_iff_iff, bne_iff_ne, bne_iff_ne, ne_eq, pred_eq_zero8]

theorem flagBits_ldBlockF (f a v : Byte) (bc : Word) :
    flagBits (ldBlockF f a v bc) =
      { flagBits f with x5 := (v + a).getLsbD 1, h := false, x3 := (v + a).getLsbD 3, pv := bc != 0, n := false } := by
  simp only [ldBlockF, flagBits, BitVec.getLsbD_or, BitVec.getLsbD_and, flagIf_bit]
  simp

/-- The half-borrow of a search is that of a comparison without carry. -/
theorem hcSub_cpBlock (a v : Byte) :
    hcSub (idx8h a v (a - v)) = flagIf (decide (a.toNat % 16 < v.toNat % 16)) flagH := by
  have h := hcSub_idx8h a v false
  rwa [sub8_false] at h

theorem cpBlockAdjusted_eq_ofNat (a v : Byte) :
    cpBlockAdjusted a v
      = BitVec.ofNat 8 (a.toNat + 512 - v.toNat - (decide (a.toNat % 16 < v.toNat % 16)).toNat) := by
  rw [cpBlockAdjusted, hcSub_cpBlock]
  generalize decide (a.toNat % 16 < v.toNat % 16) = half
  cases half with
  | false => exact (by bv_omega : a - v = BitVec.ofNat 8 (a.toNat + 512 - v.toNat - 0))
  | true => exact (by bv_omega : a - v - 1 = BitVec.ofNat 8 (a.toNat + 512 - v.toNat - 1))

theorem flagBits_cpBlockF (f a v : Byte) (bc : Word) :
    flagBits (cpBlockF f a v bc) =
      { s := (a - v).getLsbD 7, z := a == v, x5 := (cpBlockAdjusted a v).getLsbD 1
        h := decide (a.toNat % 16 < v.toNat % 16), x3 := (cpBlockAdjusted a v).getLsbD 3, pv := bc != 0, n := true
        c := f.getLsbD 0 } := by
  have hz : (a - v == 0) = (a == v) := by rw [Bool.eq_iff_iff, beq_iff_eq, beq_iff_eq, sub_eq_zero]
  simp only [cpBlockF, hcSub_cpBlock, hz, flagBits, BitVec.getLsbD_or, BitVec.getLsbD_and, flagIf_bit]
  simp

theorem flagBits_ioBlockF (v k b : Byte) :
    flagBits (ioBlockF v k b) =
      { s := b.getLsbD 7, z := b == 0, x5 := b.getLsbD 5, h := decide (255 < v.toNat + k.toNat), x3 := b.getLsbD 3
        pv := evenParity (BitVec.ofNat 8 ((v.toNat + k.toNat) % 8) ^^^ b), n := v.getLsbD 7
        c := decide (255 < v.toNat + k.toNat) } := by
  simp only [ioBlockF, parity_eq_flagIf, flagBits, BitVec.getLsbD_or, flagIf_bit, sz53_bits]
  simp

/-! ### One state for the single and the repeating form -/

section
variable (s : State) (dir : Dir) (rep : Bool)

/-- A transfer, with the repeat when `rep` (R233 to R236). -/
def State.ldForm : State :=
  ((s.ldUnit.repeatIf (rep && s.ldUnit.bc != 0) .contendWriteNoMreq s.ldUnit.de).stepHl dir).stepDe dir

theorem ldForm_false : s.ldForm dir false = s.ldStep dir := rfl

theorem ldForm_true : s.ldForm dir true = s.ldRepeat dir := rfl

/-- A search, with the repeat when `rep` (R237 to R240). -/
def State.cpForm : State :=
  (s.cpUnit.repeatIf (rep && (s.cpUnit.f &&& (flagPV ||| flagZ) == flagPV)) .contendReadNoMreq s.cpUnit.hl).stepHl dir

theorem cpForm_false : s.cpForm dir false = s.cpStep dir := rfl

theorem cpForm_true : s.cpForm dir true = s.cpRepeat dir := rfl

/-- An input, with the repeat when `rep` (R241 to R244). -/
def State.inForm : State :=
  ((s.inUnit dir).repeatIf (rep && (s.inUnit dir).main.b != 0) .contendWriteNoMreq (s.inUnit dir).hl).stepHl dir

theorem inForm_false : s.inForm dir false = s.inStep dir := rfl

theorem inForm_true : s.inForm dir true = s.inRepeat dir := rfl

/-- An output, with the repeat when `rep` (R245 to R248). -/
def State.outForm : State :=
  (s.outStep dir).repeatIf (rep && (s.outStep dir).main.b != 0) .contendReadNoMreq (s.outStep dir).bc

theorem outForm_false : s.outForm dir false = s.outStep dir := rfl

theorem outForm_true : s.outForm dir true = s.outRepeat dir := rfl

/-! ### What a unit leaves -/

@[simp] theorem repeatIf_hl (again : Bool) (k : BusKind) (a : Word) : (s.repeatIf again k a).hl = s.hl := by simp [State.hl]

@[simp] theorem repeatIf_de (again : Bool) (k : BusKind) (a : Word) : (s.repeatIf again k a).de = s.de := by simp [State.de]

@[simp] theorem repeatIf_bc (again : Bool) (k : BusKind) (a : Word) : (s.repeatIf again k a).bc = s.bc := by simp [State.bc]

@[simp] theorem repeatIf_f (again : Bool) (k : BusKind) (a : Word) : (s.repeatIf again k a).f = s.f := by simp [State.f]

@[simp] theorem ldUnit_hl : s.ldUnit.hl = s.hl := by
  rw [State.ldUnit, setF_hl, setBc_hl]; simp [State.hl]

@[simp] theorem ldUnit_de : s.ldUnit.de = s.de := by
  rw [State.ldUnit, setF_de, setBc_de]; simp [State.de]

@[simp] theorem ldUnit_bc : s.ldUnit.bc = s.bc - 1 := by
  rw [State.ldUnit, setF_bc, setBc_bc]

@[simp] theorem ldUnit_pc : s.ldUnit.pc = s.pc := by simp [State.ldUnit]

@[simp] theorem ldUnit_f : s.ldUnit.f = ldBlockF s.f s.main.a (s.byteAt s.hl) (s.bc - 1) := by
  rw [State.ldUnit, setF_f, setBc_bc]

@[simp] theorem cpUnit_hl : s.cpUnit.hl = s.hl := by
  rw [State.cpUnit, setF_hl, setBc_hl]; simp [State.hl]

@[simp] theorem cpUnit_bc : s.cpUnit.bc = s.bc - 1 := by
  rw [State.cpUnit, setF_bc, setBc_bc]

@[simp] theorem cpUnit_pc : s.cpUnit.pc = s.pc := by simp [State.cpUnit]

@[simp] theorem cpUnit_f : s.cpUnit.f = cpBlockF s.f s.main.a (s.byteAt s.hl) (s.bc - 1) := by
  rw [State.cpUnit, setF_f, setBc_bc]

theorem ldForm_mem : (s.ldForm dir rep).mem = (s.storeByte s.de (s.byteAt s.hl)).mem := by
  cases rep with
  | false => rw [ldForm_false, ldStep_mem]
  | true => rw [ldForm_true, ldRepeat_mem]

/-- What a transfer leaves, in both forms. -/
theorem ldForm_spec :
    (s.ldForm dir rep).hl = s.hl + dir.word ∧ (s.ldForm dir rep).de = s.de + dir.word ∧ (s.ldForm dir rep).bc = s.bc - 1
      ∧ (s.ldForm dir rep).pc = (if rep && s.bc != 1 then s.pc - 2 else s.pc)
      ∧ (s.ldForm dir rep).f = ldBlockF s.f s.main.a (s.byteAt s.hl) (s.bc - 1) := by
  rw [← pred_bne_zero]
  refine ⟨?_, ?_, ?_, ?_, ?_⟩ <;> simp [State.ldForm, State.stepHl, State.stepDe]

/-- What a search leaves, in both forms. -/
theorem cpForm_spec :
    (s.cpForm dir rep).hl = s.hl + dir.word ∧ (s.cpForm dir rep).bc = s.bc - 1
      ∧ (s.cpForm dir rep).pc = (if rep && s.bc != 1 && s.main.a != s.byteAt s.hl then s.pc - 2 else s.pc)
      ∧ (s.cpForm dir rep).f = cpBlockF s.f s.main.a (s.byteAt s.hl) (s.bc - 1) := by
  rw [Bool.and_assoc, ← pred_bne_zero, ← cpBlock_again s.f]
  refine ⟨?_, ?_, ?_, ?_⟩ <;> simp [State.cpForm, State.stepHl]

/-! ### Inputs and outputs -/

@[simp] theorem setHl_b (v : Word) : (s.setHl v).main.b = s.main.b := rfl

@[simp] theorem inUnit_hl : (s.inUnit dir).hl = s.hl := by
  rw [State.inUnit, setF_hl, setB_hl]; simp [State.hl]

@[simp] theorem inUnit_pc : (s.inUnit dir).pc = s.pc := by simp [State.inUnit]

/-- The delay before the port access is no draw. -/
theorem noMreq_portByte (a p : Word) (n : Nat) :
    (s.noMreq a n).portByte p = s.answers.headD (Config.portIn s.draws p) := by
  simp [State.portByte, State.nextAnswer]

theorem noMreq_bc (a : Word) (n : Nat) : (s.noMreq a n).bc = s.bc := by simp [State.bc]

theorem noMreq_hl (a : Word) (n : Nat) : (s.noMreq a n).hl = s.hl := by simp [State.hl]

@[simp] theorem inUnit_b : (s.inUnit dir).main.b = s.main.b - 1 := by
  simp [State.inUnit, State.setR8, Bank.set, State.setF]

theorem inUnit_f :
    (s.inUnit dir).f
      = ioBlockF (s.answers.headD (Config.portIn s.draws s.bc)) (s.main.c + dir.byte) (s.main.b - 1) := by
  simp [State.inUnit, State.setR8, Bank.set, noMreq_portByte, noMreq_bc]

theorem inUnit_events :
    (s.inUnit dir).events = s.events ++ [.portIn s.bc (s.answers.headD (Config.portIn s.draws s.bc))] := by
  simp [State.inUnit, noMreq_portByte, noMreq_bc]

theorem inUnit_draws : (s.inUnit dir).draws = s.draws + 1 := by
  simp [State.inUnit]

theorem inForm_mem :
    (s.inForm dir rep).mem = (s.storeByte s.hl (s.answers.headD (Config.portIn s.draws s.bc))).mem := by
  rw [← noMreq_portByte s s.ir s.bc 1]
  cases rep with
  | false => rw [inForm_false, inStep_mem]
  | true => rw [inForm_true, inRepeat_mem]

/-- What an input leaves, in both forms. -/
theorem inForm_spec :
    (s.inForm dir rep).main.b = s.main.b - 1 ∧ (s.inForm dir rep).hl = s.hl + dir.word
      ∧ (s.inForm dir rep).pc = (if rep && s.main.b != 1 then s.pc - 2 else s.pc)
      ∧ (s.inForm dir rep).f = (s.inUnit dir).f ∧ (s.inForm dir rep).events = (s.inUnit dir).events
      ∧ (s.inForm dir rep).draws = (s.inUnit dir).draws := by
  rw [← pred_bne_zero8]
  refine ⟨?_, ?_, ?_, ?_, ?_, ?_⟩ <;> simp [State.inForm, State.stepHl]

/-- The delay before the read is no draw. -/
theorem noMreq_byteAt (a b : Word) (n : Nat) : (s.noMreq a n).byteAt b = s.byteAt b :=
  byteAt_congr (by simp) (by simp) (by simp) (by simp) b

theorem setB_bc (v : Byte) : (s.setR8 .b v).bc = mkWord v s.main.c := rfl

@[simp] theorem outStep_b : (s.outStep dir).main.b = s.main.b - 1 := by
  simp [State.outStep, State.stepHl, Bank.set]

theorem portWrite_hl (p : Word) (v : Byte) : (s.portWrite p v).hl = s.hl := by simp [State.hl]

theorem afterRead_hl (a : Word) : (s.afterRead a).hl = s.hl := by simp [State.hl]

@[simp] theorem outStep_hl : (s.outStep dir).hl = s.hl + dir.word := by
  simp [State.outStep, State.stepHl, portWrite_hl, afterRead_hl, noMreq_hl]

theorem outStep_events :
    (s.outStep dir).events = s.events ++ [.portOut (mkWord (s.main.b - 1) s.main.c) (s.byteAt s.hl)] := by
  simp [State.outStep, State.stepHl, noMreq_hl, noMreq_byteAt, setB_bc]

/-- L is the new one: HL has moved when the flags are taken. -/
theorem outStep_f : (s.outStep dir).f = ioBlockF (s.byteAt s.hl) (s.outStep dir).main.l (s.outStep dir).main.b := by
  simp [State.outStep, State.stepHl, noMreq_hl, noMreq_byteAt]

/-- What an output leaves, in both forms. -/
theorem outForm_spec :
    (s.outForm dir rep).main = (s.outStep dir).main
      ∧ (s.outForm dir rep).pc = (if rep && s.main.b != 1 then s.pc - 2 else s.pc)
      ∧ (s.outForm dir rep).events = (s.outStep dir).events := by
  rw [← pred_bne_zero8]
  refine ⟨?_, ?_, ?_⟩ <;> simp [State.outForm]

theorem signExtend_byte : dir.byte.signExtend 16 = dir.word := by
  cases dir <;> decide

end

/-- A form whose memory is that after one store has stored the byte. -/
theorem stored_of_mem {s t : State} {a : Word} {v : Byte} (h : t.mem = (s.storeByte a v).mem) (hwf : s.mem.wf = true) :
    Stored s t a v := by
  have hmem : t.mem = (s.memWrite a v).mem := h.trans (memWrite_mem s a v).symm
  exact (peek_congr hmem a).trans (stored_memWrite_of_mem rfl rfl hwf a v)

/-- The four forms of a block instruction are one form in a direction, with or without the repeat. -/
theorem exists_dir_of_blockForm {α : Type} {up down upRep downRep : Instr} {k : Dir → α} {s : State}
    {form : Dir → Bool → State} (hup : exec up s = .next (form .up false)) (hdown : exec down s = .next (form .down false))
    (hupRep : exec upRep s = .next (form .up true)) (hdownRep : exec downRep s = .next (form .down true))
    {p : Instr × α × Bool}
    (hp : p ∈ [(up, k .up, false), (down, k .down, false), (upRep, k .up, true), (downRep, k .down, true)]) :
    ∃ dir, p.2.1 = k dir ∧ exec p.1 s = .next (form dir p.2.2) := by
  simp only [List.mem_cons, List.not_mem_nil, or_false] at hp
  rcases hp with rfl | rfl | rfl | rfl
  exacts [⟨.up, rfl, hup⟩, ⟨.down, rfl, hdown⟩, ⟨.up, rfl, hupRep⟩, ⟨.down, rfl, hdownRep⟩]

/-! ### The statements -/

/-- Settles O53: every form is the one transfer, up or down, with or without the repeat. -/
theorem blockTransfers : Obligations.BlockTransfers := by
  intro p hp s hwf
  obtain ⟨dir, hdir, hexec⟩ := exists_dir_of_blockForm (k := Dir.word) (form := s.ldForm) rfl rfl rfl rfl hp
  obtain ⟨hhl, hde, hbc, hpc, hf⟩ := ldForm_spec s dir p.2.2
  rw [hdir]
  refine exec_next_and hexec ⟨stored_of_mem (ldForm_mem s dir _) hwf, hhl, hde, hbc, hpc, ?_⟩
  rw [hf, flagBits_ldBlockF, pred_bne_zero]

/-- Settles O54: every form is the one search, up or down, with or without the repeat. -/
theorem blockSearches : Obligations.BlockSearches := by
  intro p hp s v half adjusted
  obtain ⟨dir, hdir, hexec⟩ := exists_dir_of_blockForm (k := Dir.word) (form := s.cpForm) rfl rfl rfl rfl hp
  obtain ⟨hhl, hbc, hpc, hf⟩ := cpForm_spec s dir p.2.2
  rw [hdir]
  refine exec_next_and hexec ⟨hhl, hbc, hpc, ?_⟩
  rw [hf, flagBits_cpBlockF, pred_bne_zero, cpBlockAdjusted_eq_ofNat]

/-- Settles O55: every form is the one input, up or down, with or without the repeat. -/
theorem blockInputs : Obligations.BlockInputs := by
  intro p hp s hwf v sum
  obtain ⟨dir, hdir, hexec⟩ := exists_dir_of_blockForm (k := Dir.byte) (form := s.inForm) rfl rfl rfl rfl hp
  obtain ⟨hb, hhl, hpc, hf, hevents, hdraws⟩ := inForm_spec s dir p.2.2
  rw [hdir, signExtend_byte]
  refine exec_next_and hexec ⟨hevents.trans (inUnit_events s dir), hdraws.trans (inUnit_draws s dir),
    stored_of_mem (inForm_mem s dir _) hwf, hb, hhl, hpc, ?_⟩
  rw [hf, inUnit_f, flagBits_ioBlockF, hb, ← hdir]

/-- Settles O56: every form is the one output, up or down, with or without the repeat. -/
theorem blockOutputs : Obligations.BlockOutputs := by
  intro p hp s v
  obtain ⟨dir, hdir, hexec⟩ := exists_dir_of_blockForm (k := Dir.byte) (form := s.outForm) rfl rfl rfl rfl hp
  obtain ⟨hmain, hpc, hevents⟩ := outForm_spec s dir p.2.2
  have hf : (s.outForm dir p.2.2).f = (s.outStep dir).f := by rw [State.f, State.f, hmain]
  have hhl : (s.outForm dir p.2.2).hl = (s.outStep dir).hl := by rw [State.hl, State.hl, hmain]
  rw [hdir, signExtend_byte]
  refine exec_next_and hexec ⟨hevents.trans (outStep_events s dir), ?_, hhl.trans (outStep_hl s dir), hpc, ?_⟩
  · rw [hmain, outStep_b]
  · rw [hf, outStep_f, flagBits_ioBlockF, hmain]

/-! ### The repeating form beside the single one -/

/-- Two states the same but for PC and T, which are also the same or as the repeat engine moves them (R230). -/
def State.RepeatOf (u t : State) : Prop :=
  u = { t with pc := u.pc, t := u.t }
    ∧ ((u.pc = t.pc ∧ u.t = t.t)
      ∨ (u.pc = t.pc - 2 ∧ t.t + 5 ≤ u.t ∧ (t.platform.contended = false → u.t = t.t + 5)))

theorem addT_eq {u t : State} (h : u = { t with t := u.t }) (n : Nat) : u.addT n = { t with t := (u.addT n).t } :=
  congrArg (State.addT · n) h

/-- Charging T-states changes T alone. -/
theorem ticks_eq (s : State) (k : BusKind) (a : Word) (n : Nat) : s.ticks k a n = { s with t := (s.ticks k a n).t } := by
  induction n with
  | zero => rfl
  | succ n ih => exact addT_eq ih _

theorem repeatOf_setPc {u t : State} (h : u = { t with t := u.t }) (hle : t.t + 5 ≤ u.t)
    (hT : t.platform.contended = false → u.t = t.t + 5) : (u.setPc (t.pc - 2)).RepeatOf t :=
  ⟨congrArg (State.setPc · (t.pc - 2)) h, .inr ⟨rfl, hle, hT⟩⟩

theorem repeatOf_repeatIf (t : State) (again : Bool) (k : BusKind) (a : Word) : (t.repeatIf again k a).RepeatOf t := by
  cases again with
  | false => exact ⟨rfl, .inl ⟨rfl, rfl⟩⟩
  | true => exact repeatOf_setPc (ticks_eq t k a 5) (ticks_le t k a 5) (ticks_t t k a 5)

/-- The pointers move the same way in both states, whose registers are the same. -/
theorem State.RepeatOf.stepHl {u t : State} (h : u.RepeatOf t) (dir : Dir) : (u.stepHl dir).RepeatOf (t.stepHl dir) := by
  obtain ⟨heq, hpcT⟩ := h
  exact ⟨congrArg (State.stepHl · dir) heq, hpcT⟩

theorem State.RepeatOf.stepDe {u t : State} (h : u.RepeatOf t) (dir : Dir) : (u.stepDe dir).RepeatOf (t.stepDe dir) := by
  obtain ⟨heq, hpcT⟩ := h
  exact ⟨congrArg (State.stepDe · dir) heq, hpcT⟩

section
variable (s : State) (dir : Dir)

theorem ldRepeat_repeatOf : (s.ldRepeat dir).RepeatOf (s.ldStep dir) := ((repeatOf_repeatIf _ _ _ _).stepHl dir).stepDe dir

theorem cpRepeat_repeatOf : (s.cpRepeat dir).RepeatOf (s.cpStep dir) := (repeatOf_repeatIf _ _ _ _).stepHl dir

theorem inRepeat_repeatOf : (s.inRepeat dir).RepeatOf (s.inStep dir) := (repeatOf_repeatIf _ _ _ _).stepHl dir

theorem outRepeat_repeatOf : (s.outRepeat dir).RepeatOf (s.outStep dir) := repeatOf_repeatIf _ _ _ _

end

/-- Settles O57: the repeat engine is all that the repeating form adds, and it moves PC and T alone. -/
theorem repeatingFormIsItsSingleForm : Obligations.RepeatingFormIsItsSingleForm := by
  intro p hp s
  have hform : ∃ t u, exec p.2 s = .next t ∧ exec p.1 s = .next u ∧ t.platform = s.platform ∧ u.RepeatOf t := by
    simp only [List.mem_cons, List.not_mem_nil, or_false] at hp
    rcases hp with rfl | rfl | rfl | rfl | rfl | rfl | rfl | rfl
    exacts [⟨_, _, rfl, rfl, ldStep_platform s _, ldRepeat_repeatOf s .up⟩,
      ⟨_, _, rfl, rfl, ldStep_platform s _, ldRepeat_repeatOf s .down⟩,
      ⟨_, _, rfl, rfl, cpStep_platform s _, cpRepeat_repeatOf s .up⟩,
      ⟨_, _, rfl, rfl, cpStep_platform s _, cpRepeat_repeatOf s .down⟩,
      ⟨_, _, rfl, rfl, inStep_platform s _, inRepeat_repeatOf s .up⟩,
      ⟨_, _, rfl, rfl, inStep_platform s _, inRepeat_repeatOf s .down⟩,
      ⟨_, _, rfl, rfl, outStep_platform s _, outRepeat_repeatOf s .up⟩,
      ⟨_, _, rfl, rfl, outStep_platform s _, outRepeat_repeatOf s .down⟩]
  obtain ⟨t, u, hsingle, hrepeat, hplatform, heq, hpcT⟩ := hform
  exact ⟨t, u, hsingle, hrepeat, heq, hplatform ▸ hpcT⟩

end Sys2Proof.Machine
end

section
/-! The port, control and transfer instructions (R222, R250 to R269). -/

namespace Sys2Proof.Machine

/-! ### Ports -/

theorem afterPortRead_fetchImm_f (s : State) (p : Word) : (s.fetchImm.afterPortRead p).f = s.f := by simp [State.f]

/-- Settles O58: each form is one port access at the state its operand fetch leaves, then the writes of A, r and F. -/
theorem portInstructions : Obligations.PortInstructions := by
  intro s
  refine ⟨fun n => exec_next_and rfl ⟨rfl, ?flagsInA, ?eventInA, by simp⟩,
    fun r => exec_next_and rfl ⟨setR8_r8 _ _ r, ?flagsInR, by simp, by simp⟩,
    exec_next_and rfl ⟨flagBits_keepCSz53p _ _, by simp, by simp⟩,
    fun n => exec_next_and rfl ⟨?eventOutA, by simp⟩,
    fun r => exec_next_and rfl ⟨portWrite_events s _ _, portWrite_mem s _ _⟩,
    exec_next_and rfl ⟨portWrite_events s _ _, portWrite_mem s _ _⟩⟩
  case flagsInA => rw [setR8_f, afterPortRead_fetchImm_f]
  case eventInA => simp [State.portAn]
  case flagsInR =>
    rw [setR8_f, setF_f]
    exact flagBits_keepCSz53p _ _
  case eventOutA =>
    rw [portWrite_events, fetchImm_events]
    rfl

/-! ### Control -/

/-- Settles O59: each form is a write of one cell or two, and RETI is the return from an interrupt. -/
theorem controlInstructions : Obligations.ControlInstructions := by
  intro s
  refine ⟨rfl, fun _ => rfl, fun _ => rfl, exec_cost _ _ _ rfl, fun _ => exec_cost _ _ _ rfl, fun _ => exec_cost _ _ _ rfl,
    exec_next_and rfl ⟨rfl, rfl⟩, exec_next_and rfl ⟨rfl, rfl, rfl⟩, exec_next_and rfl ⟨rfl, rfl⟩,
    exec_next_and rfl ⟨returnFromInterrupt_iff1 s, returnFromInterrupt_sp s, ?_⟩,
    fun y => ⟨exec_next_and rfl rfl, exec_next_and rfl rfl, exec_next_and rfl rfl⟩⟩
  rw [returnFromInterrupt_pc, toNat_readWord]

/-! ### I and R -/

theorem flagBits_loadIrF (f a : Byte) (iff2 : Bool) :
    flagBits (loadIrF f a iff2) = { parityFlags a false (f.getLsbD 0) with pv := iff2 } := by
  simp only [loadIrF, flagBits, BitVec.getLsbD_or, BitVec.getLsbD_and, flagIf_bit, sz53_bits, parityFlags]
  simp

/-- What a load of A from I or R leaves in A and F (R268, R269). -/
theorem loadAFromIr_spec (s : State) (v : Byte) :
    (s.loadAFromIr v).main.a = v
      ∧ flagBits (s.loadAFromIr v).f = { parityFlags v false (s.f.getLsbD 0) with pv := s.iff2 } :=
  ⟨rfl, flagBits_loadIrF _ _ _⟩

/-- Settles O60: each form moves one byte between A and I or R, whose two parts are the digits of the byte. -/
theorem transfersOfIAndR : Obligations.TransfersOfIAndR := by
  intro s
  obtain ⟨ha, hf⟩ := loadAFromIr_spec s s.rByte
  refine ⟨exec_next_and rfl rfl, exec_next_and rfl ⟨BitVec.extractLsb'_toNat 0 7 _, BitVec.msb_eq_decide s.main.a⟩,
    exec_next_and rfl (loadAFromIr_spec s s.i), exec_next_and rfl ⟨?_, ?_⟩⟩
  · rw [ha, toNat_rByte]
    cases s.rB7 <;> simp [Nat.add_comm]
  · rw [ha, hf]

end Sys2Proof.Machine
end
